-- ==== Sys2Proof/Word.lean ====
section
/-! DEFINITION. The plainest word type: the unsigned 8-bit value u8 of 00_scope.md R16. -/

namespace Sys2Proof

/-- `u8` (R16): an unsigned 8-bit value, the unit of serial input (R46) and the width of the LED
countdowns and of the debounce counter (`P_LED_TIMER_WIDTH` = 8, R14). -/
abbrev Byte := BitVec 8

end Sys2Proof
end

