-- ==== Sys2Proof/Syntax.lean ====
section
/-! DEFINITION. The instructions: one constructor per row of spec/opcode_table.json (R58, R59). -/

namespace Sys2Proof

/-- The stimuli the machine steps on (R55, D1). The first five are the operations a serviced byte
decodes to (format `byte`, R58), performed inside the step of ISR_RX (R66). The other nine are the
event stimuli (formats `event` and `event_op`, R59), each a step of its own. -/
inductive Instr where
  /-- CLOCK, byte `F8` (R69). -/
  | clock
  /-- START, byte `FA` (R83). -/
  | start
  /-- CONTINUE, byte `FB` (R84). -/
  | cont
  /-- STOP, byte `FC` (R85). -/
  | stop
  /-- IGNORE, any other byte (R67); `b` is the byte, so that no bit of it is lost. -/
  | ignore (b : Byte)
  /-- RESET l0, power-on with the switch at level `l0` (R116). -/
  | reset (l0 : Bool)
  /-- RX b, byte `b` arrives (R65). -/
  | rx (b : Byte)
  /-- ISR_RX, the received byte is serviced (R66). -/
  | isrRx
  /-- US_TICK, one microsecond passes (R73). -/
  | usTick
  /-- ISR_CMP, the compare match is serviced (R76). -/
  | isrCmp
  /-- ISR_OVF, the overflow is serviced (R77). -/
  | isrOvf
  /-- MS_TICK, the millisecond tick arrives (R89). -/
  | msTick
  /-- HOUSEKEEP, the main loop's housekeeping pass (R90). -/
  | housekeep
  /-- SWITCH l, the raw switch level becomes `l`, true = pressed (R95). -/
  | switch (l : Bool)
  deriving DecidableEq, Repr, Inhabited

end Sys2Proof
end

