-- ==== Sys2Proof/WellFormed.lean ====
section
/-! DEFINITION. Which instructions are well formed: an IGNORE holds none of the four bytes that mean
something else (30_encoding.md R58, R60). -/

namespace Sys2Proof

/-- The four byte values that are not ignored (R58, rows 1 to 4). -/
def isMessageByte (b : Byte) : Bool :=
  b == 0xF8#8 || b == 0xFA#8 || b == 0xFB#8 || b == 0xFC#8

/-- Well-formedness. The only check is IGNORE's: row 5 of R58 matches the 252 values that rows 1 to 4
do not. Every operand value of the event stimuli is legal (R59, R65). -/
def Instr.wf : Instr → Bool
  | .ignore b => !isMessageByte b
  | .clock | .start | .cont | .stop => true
  | .reset _ | .rx _ | .isrRx | .usTick | .isrCmp | .isrOvf | .msTick | .housekeep | .switch _ => true

end Sys2Proof
end

