-- ==== Sys2Proof/Decode.lean ====
section
/-! DEFINITION. The message decoder (40_message_decoder.md R64, 30_encoding.md R58) and the encoder
of the byte stimuli. -/

namespace Sys2Proof

/-- The five operations a byte decodes to (R64). -/
inductive ByteOp where
  | clock | start | cont | stop | ignore
  deriving DecidableEq, Repr

/-- `decode` of R64: total, pure, of the byte's value alone. -/
def decodeByte (b : Byte) : ByteOp :=
  if b = 0xF8#8 then .clock
  else if b = 0xFA#8 then .start
  else if b = 0xFB#8 then .cont
  else if b = 0xFC#8 then .stop
  else .ignore

/-- A row of the opcode map of R58. -/
structure OpcodeRow where
  op : ByteOp
  pattern : Byte
  mask : Byte
  deriving DecidableEq, Repr

/-- The opcode map of R58, in its order of priority. -/
def opcodeMap : List OpcodeRow :=
  [⟨.clock, 0xF8#8, 0xFF#8⟩, ⟨.start, 0xFA#8, 0xFF#8⟩, ⟨.cont, 0xFB#8, 0xFF#8⟩,
   ⟨.stop, 0xFC#8, 0xFF#8⟩, ⟨.ignore, 0x00#8, 0x00#8⟩]

/-- A row matches the bytes that agree with its pattern under its mask. -/
def OpcodeRow.hits (r : OpcodeRow) (b : Byte) : Bool := b &&& r.mask == r.pattern

/-- The instruction a serviced byte stands for. -/
def instrOfByte (b : Byte) : Instr :=
  match decodeByte b with
  | .clock => .clock
  | .start => .start
  | .cont => .cont
  | .stop => .stop
  | .ignore => .ignore b

/-- Why a list of bytes gives no instruction. No byte value is illegal (R60), so the only reason is
that there is no byte. -/
inductive DecodeError where
  | noByte
  deriving DecidableEq, Repr

/-- The decoder on the serial byte stream: one byte, one instruction (R61). -/
def decodeBytes : List Byte → Except DecodeError (Instr × List Byte)
  | [] => .error .noByte
  | b :: rest => .ok (instrOfByte b, rest)

/-- The byte of a byte stimulus (R58); the event stimuli have no bit encoding (R59). -/
def encode : Instr → Option (List Byte)
  | .clock => some [0xF8#8]
  | .start => some [0xFA#8]
  | .cont => some [0xFB#8]
  | .stop => some [0xFC#8]
  | .ignore b => some [b]
  | .reset _ | .rx _ | .isrRx | .usTick | .isrCmp | .isrOvf | .msTick | .housekeep | .switch _ => none

/-- The byte that an opcode-table word of `nbits` bits denotes: its low `nbits` bits, the bits above
them zero. -/
def tableByte (nbits w : Nat) : Byte := BitVec.ofNat 8 (w % 2 ^ nbits)

/-- The instruction read from an opcode-table word. A word of no bits holds no byte: the event rows of
the table have no encoding (R59). -/
def decodeTableWord (nbits w : Nat) : Option Instr :=
  match decodeBytes (if nbits = 0 then [] else [tableByte nbits w]) with
  | .ok (i, _) => some i
  | .error _ => none

end Sys2Proof
end

