-- ==== Sys2Proof/Machine/Stimulus.lean ====
section
/-! DEFINITION. What the environment and the schedule supply: the event stimuli (30_encoding.md R59),
the draws of a CLOCK (R66, R72) and a script's lines (R62). -/

namespace Sys2Proof.Machine

/-- The event stimuli (R59), the stimuli of which a step takes one. The byte stimuli are not among
them: each is performed inside the step of ISR_RX (R66). -/
inductive Event where
  | reset (l0 : Bool)
  | rx (b : Byte)
  | isrRx
  | usTick
  | isrCmp
  | isrOvf
  | msTick
  | housekeep
  | switch (l : Bool)
  deriving DecidableEq, Repr, Inhabited

/-- The instruction that an event is. -/
def Event.toInstr : Event → Instr
  | .reset l0 => .reset l0
  | .rx b => .rx b
  | .isrRx => .isrRx
  | .usTick => .usTick
  | .isrCmp => .isrCmp
  | .isrOvf => .isrOvf
  | .msTick => .msTick
  | .housekeep => .housekeep
  | .switch l => .switch l

/-- Is the event a RESET? -/
def Event.isReset : Event → Bool
  | .reset _ => true
  | .rx _ | .isrRx | .usTick | .isrCmp | .isrOvf | .msTick | .housekeep | .switch _ => false

/-- The three draws of a CLOCK (R66, R72): behaviour the source leaves open (U1 to U3). -/
structure Draws where
  discardCmp : Bool
  discardOvf : Bool
  retriggerGlitch : Bool
  deriving DecidableEq, Repr, Inhabited

/-- The draws of a script line that writes none: all false (R62). -/
def Draws.allFalse : Draws := ⟨false, false, false⟩

/-- A line of a stimulus script (R62): an event, and the draws it fixes. `none` leaves them free, as
the hardware does; the script syntax itself fixes each one it does not write to false. -/
structure Line where
  event : Event
  draws : Option Draws
  deriving DecidableEq, Repr

/-- A line of the script syntax that carries no draws in braces (R62). -/
def Line.plain (e : Event) : Line := ⟨e, some Draws.allFalse⟩

/-- A line whose draws stay free. -/
def Line.free (e : Event) : Line := ⟨e, none⟩

end Sys2Proof.Machine
end

