-- ==== Sys2Proof/Config.lean ====
section
/-! DEFINITION. The configuration, fixed at build time (00_scope.md R7 to R15, 10_state.md R42), and
the free values: opaque constants without a body, for what the spec leaves open (R17, R36, R103). -/

namespace Sys2Proof

/-- The smallest `P_TIMER_WIDTH` a model takes (R7). -/
def Config.minTimerWidth : Nat := 14

/-- `P_TIMER_WIDTH`, W (R7, D3): the width of the Pulse Timer's counter and compare register, 16 for this
hardware. No other definition of the model holds this number: the Pulse Timer and its operations take W
as an argument, and State holds the timer of this width. -/
abbrev Config.timerWidth : Nat := 16

/-- W ≥ 14, as R7 requires. It fails to compile for a smaller width. -/
theorem Config.minTimerWidth_le_timerWidth : Config.minTimerWidth ≤ Config.timerWidth := by decide

/-- `uW` of this hardware (R16). -/
abbrev Ticks := BitVec Config.timerWidth

/-- `P_TICK_US` (R8): microseconds in one counter increment. -/
def Config.tickUs : Nat := 1

/-- `P_DEFAULT_WIDTH_US` (R9): the pulse width where the interval is unknown. -/
def Config.defaultWidthUs : Nat := 5000

/-- `P_BEAT_CLOCKS` (R10): Clock events in a beat. -/
abbrev Config.beatClocks : Nat := 24

/-- `P_BAUD` (R15), in bits a second. It fixes the receiver's byte rate and no rule of the block. -/
def Config.baud : Nat := 31250

/-- The bits of an 8-N-1 frame: 8 data bits, no parity, 1 stop bit (R15), and one start bit
(PRESUMED by the spec itself, G1). -/
def Config.frameBits : Nat := 10

/-- The line time of one byte in microseconds (R15, R126). -/
def Config.frameUs : Nat := Config.frameBits * (1000000 / Config.baud)

/-- FREE VALUE (R11, D21): which of 1..255 `P_MIDI_LED_MS` is, counted from 0. -/
opaque Config.midiLedChoice : Fin 255

/-- FREE VALUE (R12, D21): which of 1..255 `P_BEAT_LED_MS` is, counted from 0. -/
opaque Config.beatLedChoice : Fin 255

/-- FREE VALUE (R13, D21): which of 1..255 `P_DEBOUNCE_MS` is, counted from 0. -/
opaque Config.debounceChoice : Fin 255

/-- `P_MIDI_LED_MS` (R11): the reload value of `midi_led_timer`, any value of 1..255 (R14). -/
def Config.midiLedMs : Byte := BitVec.ofNat 8 (Config.midiLedChoice.val + 1)

/-- `P_BEAT_LED_MS` (R12): the reload value of `beat_led_timer`, any value of 1..255 (R14). -/
def Config.beatLedMs : Byte := BitVec.ofNat 8 (Config.beatLedChoice.val + 1)

/-- `P_DEBOUNCE_MS` (R13): the passes of a debounce, any value of 1..255 (R14). -/
def Config.debounceMs : Byte := BitVec.ofNat 8 (Config.debounceChoice.val + 1)

/-- FREE VALUE (D26, U6): the draw `switch_raw0`, the switch level at power-on. -/
opaque Config.switchRaw0 : Bool

/-- FREE VALUES (R17, R72, U1 to U3): the draws of a CLOCK whose script line fixes none. -/
opaque Config.freeDraws : Nat → Machine.Draws

/-- FREE VALUES (R103, U4, D11): what the environment and the scheduler do next where no script
says. -/
opaque Config.freeEvent : Nat → Machine.Event

end Sys2Proof
end

