-- ==== Sys2Proof/Machine/State.lean ====
section
/-! DEFINITION. The architectural state (10_state.md R19 to R41) as plain data, and the state after
reset (70_reset_and_hazards.md R116). -/

namespace Sys2Proof.Machine

/-- The switch debounce state (R37). -/
inductive Debounce where
  | idle
  | debouncing (r : Byte)
  | waitingForRelease
  deriving DecidableEq, Repr

/-- The Pulse Timer (R109) with a counter and a compare register of `W` bits (R7). -/
@[ext]
structure PulseTimer (W : Nat) where
  /-- Elapsed-time counter, `tmr_count` (R28). -/
  count : BitVec W
  /-- Does the counter advance, `tmr_running` (R29)? -/
  running : Bool
  /-- Compare value, the pulse width in microseconds, `tmr_cmp` (R30). -/
  cmp : BitVec W
  /-- Is the one-shot compare still to fire, `tmr_cmp_armed` (R31)? -/
  armed : Bool
  deriving DecidableEq, Repr

/-- The Pulse Timer at reset (R28 to R31, R116). -/
def PulseTimer.atReset (W : Nat) : PulseTimer W := ⟨0#W, false, 0#W, false⟩

/-- The two output lines whose edges the trace records (R41). -/
inductive Signal where
  | clockLine
  | runLine
  deriving DecidableEq, Repr

/-- An entry of the output trace (R41): at `time` microseconds the `signal` took the `level`. -/
structure Edge where
  time : Nat
  signal : Signal
  level : Bool
  deriving DecidableEq, Repr

/-- The sticky fault bits (R38, R99). They are state: a fault bit does not stop the machine (R18). -/
structure FaultBits where
  rxOverrun : Bool
  tickOverrun : Bool
  deriving DecidableEq, Repr

/-- No fault recorded (R38). -/
def FaultBits.none : FaultBits := ⟨false, false⟩

/-- Reasons for which the machine would stop. There are none: no stimulus raises an exception, trap or
error result (R97), and the spec's faults are bits of State that do not stop the machine (R18, R99).
Nobody raises one, which is exact. -/
inductive Fault where
  deriving DecidableEq, Repr

/-- Why an instruction has no step. -/
inductive Refusal where
  /-- Raised by an arm of exec whose instruction has no meaning yet; no arm does. Safe. -/
  | notModelled (mnemonic : String)
  /-- Raised by ISR_RX where `rx_pending` is none: it has a step only where a byte is pending (R17,
  R66). Safe: the machine stops where the spec has no step. -/
  | noPendingByte
  /-- Raised by ISR_CMP where `cmp_pending` is false (R17, R76). Safe. -/
  | noPendingCompare
  /-- Raised by ISR_OVF where `ovf_pending` is false (R17, R77). Safe. -/
  | noPendingOverflow
  /-- Raised by HOUSEKEEP where `tick_flag` is false (R17, R90). Safe. -/
  | noTick
  deriving DecidableEq, Repr

/-- The machine's state. The last three fields are the model's own: they stand for the environment and
the schedule. -/
@[ext]
structure State where
  /-- Transport state, true = Running (R21); also the level of the run line (R26). -/
  running : Bool
  /-- Clock position in the beat, 0..23 (R22). -/
  beatCount : Fin Config.beatClocks
  /-- Activity-LED countdown in ms (R23). -/
  midiLedTimer : Byte
  /-- Beat-LED countdown in ms (R24). -/
  beatLedTimer : Byte
  /-- DIN Sync clock output, true = high (R25). -/
  clockLine : Bool
  /-- The "known" tag of the interval (R27). -/
  intervalValid : Bool
  /-- The Pulse Timer: `tmr_count`, `tmr_running`, `tmr_cmp` and `tmr_cmp_armed` (R28 to R31). -/
  timer : PulseTimer Config.timerWidth
  /-- Pending compare-match interrupt (R32). -/
  cmpPending : Bool
  /-- Pending overflow interrupt (R33). -/
  ovfPending : Bool
  /-- The received byte awaiting service (R34). -/
  rxPending : Option Byte
  /-- The "tick occurred" flag (R35). -/
  tickFlag : Bool
  /-- Raw switch level, true = pressed (R36). -/
  switchRaw : Bool
  /-- Switch debounce state (R37). -/
  debounce : Debounce
  /-- Sticky fault bits (R38). -/
  faults : FaultBits
  /-- Ghost: microseconds since RESET (R41). -/
  nowUs : Nat
  /-- Ghost: the output trace, oldest entry first (R41). -/
  trace : List Edge
  /-- Ghost: stimuli taken since RESET (R20). -/
  cursor : Nat
  /-- Model: the script lines still to be taken (R62). -/
  script : List Line
  /-- Model: the draws that the script line being taken fixes; none leaves them free (R62). -/
  draw : Option Draws
  /-- Model: how many free values have been used; the free draws and the free schedule are applied to
  it. -/
  freeIndex : Nat
  deriving DecidableEq, Repr

/-- The state after `RESET l0` with nothing loaded (R116). -/
def State.afterReset (l0 : Bool) : State where
  running := false
  beatCount := 0
  midiLedTimer := 0#8
  beatLedTimer := 0#8
  clockLine := false
  intervalValid := false
  timer := PulseTimer.atReset Config.timerWidth
  cmpPending := false
  ovfPending := false
  rxPending := none
  tickFlag := false
  switchRaw := l0
  debounce := .idle
  faults := FaultBits.none
  nowUs := 0
  trace := []
  cursor := 0
  script := []
  draw := none
  freeIndex := 0

/-- The machine right after reset (R116). The switch level at power-on is the free draw `switch_raw0`
(R36, D26). -/
def State.reset : State := State.afterReset Config.switchRaw0

end Sys2Proof.Machine
end

