-- ==== Sys2Proof/Machine/Flags.lean ====
section
/-! DEFINITION. The flag computations: outputs that are functions of the state (10_state.md R26, R27,
R39, R40), what a CLOCK does to a pending flag (R72), fault bits
(R38). -/

namespace Sys2Proof.Machine

/-- The level of the run line: it mirrors `running` (R26). -/
def State.runLine (s : State) : Bool := s.running

/-- The activity LED is lit exactly when `midi_led_timer > 0` (R39). -/
def State.activityLed (s : State) : Bool := decide (0#8 < s.midiLedTimer)

/-- The beat LED is lit exactly when `beat_led_timer > 0 ∧ running` (R40). -/
def State.beatLed (s : State) : Bool := decide (0#8 < s.beatLedTimer) && s.running

/-- The interval is known exactly when `interval_valid ∧ tmr_running` (R27). -/
def State.intervalKnown (s : State) : Bool := s.intervalValid && s.timer.running

/-- A pending flag after a CLOCK whose draw for it is `discard` (R72). -/
def keptUnless (discard flag : Bool) : Bool := flag && !discard

/-- Record RxOverrun, code 1 (R99). -/
def FaultBits.withRxOverrun (f : FaultBits) : FaultBits := { f with rxOverrun := true }

/-- Record TickOverrun, code 2 (R99). -/
def FaultBits.withTickOverrun (f : FaultBits) : FaultBits := { f with tickOverrun := true }

/-- The level of a signal (R25, R26). -/
def State.level (s : State) : Signal → Bool
  | .clockLine => s.clockLine
  | .runLine => s.runLine

end Sys2Proof.Machine
end

