-- ==== Sys2Proof/Machine/Operands.lean ====
section
/-! DEFINITION. The operand forms (30_encoding.md R55, R59): when a stimulus can be taken, the byte that
a service consumes, and the draws of a CLOCK (R66). -/

namespace Sys2Proof.Machine

/-- When a stimulus has a step (R17, R59): the environment's always, a service's when its pending
element is set. -/
def enabled (e : Event) (s : State) : Bool :=
  match e with
  | .reset _ | .rx _ | .usTick | .msTick | .switch _ => true
  | .isrRx => s.rxPending.isSome
  | .isrCmp => s.cmpPending
  | .isrOvf => s.ovfPending
  | .housekeep => s.tickFlag

/-- Servicing the receiver consumes its byte (R49, R66). -/
def consumeByte (s : State) : State := { s with rxPending := none }

/-- The draws of the CLOCK now performed: those the script line fixes, else free values (R62, R72). -/
def drawsOf (s : State) : Draws := s.draw.getD (Config.freeDraws s.freeIndex)

/-- The next free value is another one. -/
def useFree (s : State) : State := { s with freeIndex := s.freeIndex + 1 }

end Sys2Proof.Machine
end

