-- ==== Sys2Proof/Machine/Timer.lean ====
section
/-! DEFINITION. The Pulse Timer's operations (60_exceptions.md R109, 41_pulse_engine.md R70, R73 to R75),
for every counter width W (00_scope.md R7). -/

namespace Sys2Proof.Machine

/-- The counter's last value, 2^W − 1, at which the next US_TICK overflows (R73, R75). -/
def lastCount (W : Nat) : BitVec W := BitVec.ofNat W (2 ^ W - 1)

/-- `pulse_width(known, e)` (R70): half the measured interval, rounded down, else the default. -/
def pulseWidth {W : Nat} (known : Bool) (e : BitVec W) : BitVec W :=
  if known then e / 2#W else BitVec.ofNat W Config.defaultWidthUs

/-- Arm-compare (R109): program the compare to fire once, at `width` (R69 step 3). -/
def PulseTimer.arm {W : Nat} (t : PulseTimer W) (width : BitVec W) : PulseTimer W :=
  { t with cmp := width, armed := true }

/-- Reset and start (R109): the counter runs from 0 (R69 step 4). -/
def PulseTimer.restart {W : Nat} (t : PulseTimer W) : PulseTimer W :=
  { t with count := 0#W, running := true }

/-- Does the next microsecond overflow the counter (R75)? -/
def PulseTimer.overflows {W : Nat} (t : PulseTimer W) : Bool :=
  t.running && decide (t.count = lastCount W)

/-- Does the next microsecond fire the compare (R74)? It is tested against the incremented counter. -/
def PulseTimer.fires {W : Nat} (t : PulseTimer W) : Bool :=
  t.running && !t.overflows && t.armed && decide (t.cmp ≤ t.count + 1#W)

/-- The timer after one microsecond (R73): stopped, it holds; at the last count it wraps to 0 and stops
itself; else it counts, and a compare that fires is disarmed. -/
def PulseTimer.tick {W : Nat} (t : PulseTimer W) : PulseTimer W :=
  if t.overflows then { t with count := 0#W, running := false }
  else if t.running then { t with count := t.count + 1#W, armed := t.armed && !t.fires }
  else t

end Sys2Proof.Machine
end

