-- ==== Sys2Proof/Machine/Ops.lean ====
section
/-! DEFINITION. The shared operations on the state: emitted edges (00_scope.md R17), the steps of CLOCK
(41_pulse_engine.md R69 to R72), the timer's microsecond (R73), the entry procedures of the transport
(42_transport.md R81, R82, R86), the parts of a housekeeping pass (43_housekeeping.md R91 to R94).

The block takes no exception: no stimulus raises one (R97), and an interrupt service saves nothing,
changes no mode, goes to no vector, and returns to nothing (R105, R106). So no operation here saves or
restores a context; a service is its own writes. -/

namespace Sys2Proof.Machine

/-- What `emit(signal, level)` (R17) appends to the trace where a line is driven from level `old` to
level `new`: one entry exactly when the level changes (R41). -/
def edgesOf (time : Nat) (sig : Signal) (old new : Bool) : List Edge :=
  if old = new then [] else [⟨time, sig, new⟩]

/-- The edges of CLOCK's step 1 (R69): a rising edge, and on a line already high none, or the glitch
pair where the draw says so (R72). -/
def pulseStartEdges (d : Draws) (s : State) : List Edge :=
  if s.clockLine then
    if d.retriggerGlitch then [⟨s.nowUs, .clockLine, false⟩, ⟨s.nowUs, .clockLine, true⟩] else []
  else [⟨s.nowUs, .clockLine, true⟩]

/-- CLOCK step 1: "Drive output_clock_line high immediately" (R69, R119). -/
def raiseClockLine (d : Draws) (s : State) : State :=
  { s with trace := s.trace ++ pulseStartEdges d s, clockLine := true }

/-- The pulse end: drive the clock line low, with an edge if it was high (R76). -/
def dropClockLine (s : State) : State :=
  { s with trace := s.trace ++ edgesOf s.nowUs .clockLine s.clockLine false, clockLine := false }

/-- CLOCK step 3: program the compare, and do to the pending interrupts what the draws say (R69,
R72). -/
def armCompare (d : Draws) (width : Ticks) (s : State) : State :=
  { s with
    timer := s.timer.arm width
    cmpPending := keptUnless d.discardCmp s.cmpPending
    ovfPending := keptUnless d.discardOvf s.ovfPending }

/-- CLOCK step 4: reset and restart the elapsed-time counter; an interval is now being measured
(R69). -/
def restartTimer (s : State) : State :=
  { s with timer := s.timer.restart, intervalValid := true }

/-- Does this CLOCK complete the beat (R71)? -/
def completesBeat (s : State) : Bool := decide (s.beatCount.val + 1 = Config.beatClocks)

/-- `beat_step()`, CLOCK step 5 (R71). -/
def beatStep (s : State) : State :=
  { s with
    beatCount := if completesBeat s then 0 else s.beatCount + 1
    beatLedTimer := if completesBeat s then Config.beatLedMs else s.beatLedTimer }

/-- CLOCK step 6: reload the activity LED's countdown (R69). -/
def reloadActivityLed (s : State) : State := { s with midiLedTimer := Config.midiLedMs }

/-- The CLOCK operation with draws `d` (R69). The width is chosen from the state before the step. -/
def performClock (d : Draws) (s : State) : State :=
  let width := pulseWidth s.intervalKnown s.timer.count
  reloadActivityLed (beatStep (restartTimer (armCompare d width (raiseClockLine d s))))

/-- The ghost clock advances by one microsecond (R41, R73). -/
def advanceTime (s : State) : State := { s with nowUs := s.nowUs + Config.tickUs }

/-- What one microsecond does to the Pulse Timer and its two interrupts (R73): an event makes its
interrupt pending, and one already pending stays so. -/
def tickTimer (s : State) : State :=
  { s with
    timer := s.timer.tick
    cmpPending := s.cmpPending || s.timer.fires
    ovfPending := s.ovfPending || s.timer.overflows }

/-- Procedure ENTER_RUNNING (R81). -/
def enterRunning (s : State) : State :=
  { s with
    trace := s.trace ++ edgesOf s.nowUs .runLine s.running true
    running := true
    beatCount := 0
    beatLedTimer := Config.beatLedMs
    intervalValid := false }

/-- Procedure ENTER_STOPPED (R82). -/
def enterStopped (s : State) : State :=
  { s with
    trace := s.trace ++ edgesOf s.nowUs .runLine s.running false
    running := false
    intervalValid := false }

/-- MANUAL_TOGGLE (R86). -/
def manualToggle (s : State) : State := if s.running then enterStopped s else enterRunning s

/-- `max(t − 1, 0)` on u8 (R92, R94). -/
def countDown (t : Byte) : Byte := if t = 0#8 then 0#8 else t - 1#8

/-- The state after `Debouncing(r)` in one pass (R92). -/
def debounceNext (r : Byte) : Debounce :=
  if countDown r = 0#8 then .waitingForRelease else .debouncing (countDown r)

/-- Write the debounce state. -/
def setDebounce (d : Debounce) (s : State) : State := { s with debounce := d }

/-- `switch_step()` of a housekeeping pass: R91 in Idle, R92 in Debouncing, R93 in
WaitingForRelease. -/
def switchStep (s : State) : State :=
  match s.debounce with
  | .idle => if s.switchRaw then setDebounce (.debouncing Config.debounceMs) (manualToggle s) else s
  | .debouncing r => setDebounce (debounceNext r) s
  | .waitingForRelease => if s.switchRaw then s else setDebounce .idle s

/-- `led_step()` of a housekeeping pass (R94). -/
def ledStep (s : State) : State :=
  { s with midiLedTimer := countDown s.midiLedTimer, beatLedTimer := countDown s.beatLedTimer }

/-- Write the tick flag (R89, R90). -/
def setTickFlag (b : Bool) (s : State) : State := { s with tickFlag := b }

/-- `raise Fault(RxOverrun)` (R17, R65). -/
def raiseRxOverrun (s : State) : State := { s with faults := s.faults.withRxOverrun }

/-- `raise Fault(TickOverrun)` (R17, R89). -/
def raiseTickOverrun (s : State) : State := { s with faults := s.faults.withTickOverrun }

/-- The received byte waits for service (R65). -/
def holdByte (b : Byte) (s : State) : State := { s with rxPending := some b }

/-- The compare interrupt is no longer pending (R49, R76). -/
def clearCompare (s : State) : State := { s with cmpPending := false }

/-- The overflow's service: its interrupt is no longer pending, the interval is unknown (R77). -/
def forgetInterval (s : State) : State := { s with ovfPending := false, intervalValid := false }

/-- The raw switch level is `l` (R95). -/
def setSwitch (l : Bool) (s : State) : State := { s with switchRaw := l }

/-- Every element of the machine at its reset value, the switch at `l0` (R116). The model's own three
fields, which stand for the environment and the schedule, go on. -/
def resetMachine (l0 : Bool) (s : State) : State :=
  { State.afterReset l0 with script := s.script, draw := s.draw, freeIndex := s.freeIndex }

end Sys2Proof.Machine
end

