-- ==== Sys2Proof/Machine/Pulse.lean ====
section
/-! DEFINITION. The meanings of CLOCK, US_TICK, ISR_CMP and ISR_OVF (41_pulse_engine.md R68 to
R77). -/

namespace Sys2Proof.Machine

/-- CLOCK (R69), whatever the transport state (R68). Each CLOCK takes its own draws (R72). -/
def execClock (s : State) : Host.Outcome State Fault Refusal :=
  .next (useFree (performClock (drawsOf s) s))

/-- US_TICK (R73). -/
def execUsTick (s : State) : Host.Outcome State Fault Refusal := .next (tickTimer (advanceTime s))

/-- ISR_CMP (R76): enabled when `cmp_pending`. -/
def execIsrCmp (s : State) : Host.Outcome State Fault Refusal :=
  if enabled .isrCmp s then .next (dropClockLine (clearCompare s))
  else .refused .noPendingCompare

/-- ISR_OVF (R77): enabled when `ovf_pending`. -/
def execIsrOvf (s : State) : Host.Outcome State Fault Refusal :=
  if enabled .isrOvf s then .next (forgetInterval s)
  else .refused .noPendingOverflow

end Sys2Proof.Machine
end

