-- ==== Sys2Proof/Machine/Transport.lean ====
section
/-! DEFINITION. The meanings of START, CONTINUE and STOP (42_transport.md R83 to R85). -/

namespace Sys2Proof.Machine

/-- START (R83): ENTER_RUNNING from either state. -/
def execStart (s : State) : Host.Outcome State Fault Refusal := .next (enterRunning s)

/-- CONTINUE (R84): identical to START. -/
def execCont (s : State) : Host.Outcome State Fault Refusal := .next (enterRunning s)

/-- STOP (R85): ENTER_STOPPED from either state. -/
def execStop (s : State) : Host.Outcome State Fault Refusal := .next (enterStopped s)

end Sys2Proof.Machine
end

