-- ==== Sys2Proof/Machine/Decoder.lean ====
section
/-! DEFINITION. The meanings of RX, ISR_RX and IGNORE (40_message_decoder.md R65 to R67). -/

namespace Sys2Proof.Machine

/-- IGNORE (R67): no write, whatever the byte. -/
def execIgnore (_b : Byte) (s : State) : Host.Outcome State Fault Refusal := .next s

/-- RX b (R65): the byte waits for service; a byte that finds one waiting is lost and recorded. -/
def execRx (b : Byte) (s : State) : Host.Outcome State Fault Refusal :=
  match s.rxPending with
  | none => .next (holdByte b s)
  | some _ => .next (raiseRxOverrun s)

/-- The operation a serviced byte performs (R66). -/
def performByte (b : Byte) (s : State) : Host.Outcome State Fault Refusal :=
  match decodeByte b with
  | .clock => execClock s
  | .start => execStart s
  | .cont => execCont s
  | .stop => execStop s
  | .ignore => execIgnore b s

/-- ISR_RX (R66): enabled when a byte is pending; it consumes the byte and performs its operation, in
one step. -/
def execIsrRx (s : State) : Host.Outcome State Fault Refusal :=
  match s.rxPending with
  | none => .refused .noPendingByte
  | some b => performByte b (consumeByte s)

end Sys2Proof.Machine
end

