-- ==== Sys2Proof/Machine/Housekeeping.lean ====
section
/-! DEFINITION. The meanings of MS_TICK, HOUSEKEEP and SWITCH (43_housekeeping.md R89 to R95). -/

namespace Sys2Proof.Machine

/-- MS_TICK (R89): a tick that finds the flag set is lost and recorded. -/
def execMsTick (s : State) : Host.Outcome State Fault Refusal :=
  if s.tickFlag then .next (raiseTickOverrun s) else .next (setTickFlag true s)

/-- HOUSEKEEP (R90): enabled when `tick_flag`. The parts run in the order R90 writes them, each on
what the one before it left (DEDUCED from D19 and program P5, log entry 8). -/
def execHousekeep (s : State) : Host.Outcome State Fault Refusal :=
  if enabled .housekeep s then .next (ledStep (switchStep (setTickFlag false s)))
  else .refused .noTick

/-- SWITCH l (R95). -/
def execSwitch (l : Bool) (s : State) : Host.Outcome State Fault Refusal :=
  .next (setSwitch l s)

end Sys2Proof.Machine
end

