-- ==== Sys2Proof/Machine/Power.lean ====
section
/-! DEFINITION. The meaning of RESET (70_reset_and_hazards.md R116). -/

namespace Sys2Proof.Machine

/-- RESET l0 (R116). -/
def execReset (l0 : Bool) (s : State) : Host.Outcome State Fault Refusal :=
  .next (resetMachine l0 s)

end Sys2Proof.Machine
end

