-- ==== Sys2Proof/Machine/Dispatch.lean ====
section
/-! DEFINITION. One arm per instruction. -/

namespace Sys2Proof.Machine

def exec (i : Instr) (s : State) : Host.Outcome State Fault Refusal :=
  match i with
  | .clock => Sys2Proof.Machine.execClock s
  | .start => Sys2Proof.Machine.execStart s
  | .cont => Sys2Proof.Machine.execCont s
  | .stop => Sys2Proof.Machine.execStop s
  | .ignore b => Sys2Proof.Machine.execIgnore b s
  | .reset l0 => Sys2Proof.Machine.execReset l0 s
  | .rx b => Sys2Proof.Machine.execRx b s
  | .isrRx => Sys2Proof.Machine.execIsrRx s
  | .usTick => Sys2Proof.Machine.execUsTick s
  | .isrCmp => Sys2Proof.Machine.execIsrCmp s
  | .isrOvf => Sys2Proof.Machine.execIsrOvf s
  | .msTick => Sys2Proof.Machine.execMsTick s
  | .housekeep => Sys2Proof.Machine.execHousekeep s
  | .switch l => Sys2Proof.Machine.execSwitch l s

end Sys2Proof.Machine
end

