-- ==== Sys2Proof/Machine/Schedule.lean ====
section
/-! DEFINITION. Which stimulus comes next (20_memory.md R50, 60_exceptions.md R103), what a step adds
around the instruction (10_state.md R20), and where the host's words are placed. -/

namespace Sys2Proof.Machine

/-- The stimulus the free schedule takes: its free value where that is enabled, else a microsecond
passes. As the free value may be any event, every schedule of enabled stimuli is among them (R103). -/
def freeChoice (s : State) : Event :=
  if enabled (Config.freeEvent s.freeIndex) s then Config.freeEvent s.freeIndex else .usTick

/-- The next line and the state left for it: the script's first line where it is enabled; where it is
not it waits (R17), and so does an empty script, while the free schedule goes on. -/
def nextLine (s : State) : Line × State :=
  match s.script with
  | l :: rest =>
    if enabled l.event s then (l, { s with script := rest })
    else (.free (freeChoice s), useFree s)
  | [] => (.free (freeChoice s), useFree s)

/-- Before the instruction: the line's draws are the step's. -/
def beginStep (l : Line) (s : State) : State := { s with draw := l.draws }

/-- The position in the stimulus stream after a stimulus: RESET itself sets it to 0, every other
stimulus advances it by 1 (R20). -/
def countStimulus (e : Event) (cursor : Nat) : Nat := if e.isReset then cursor else cursor + 1

/-- After the instruction: the stimulus is counted, and the line's draws are gone. -/
def endStep (l : Line) (s : State) : State :=
  { s with draw := none, cursor := countStimulus l.event s.cursor }

/-- Place an opcode-table word where the next step reads its instruction: as the byte awaiting service,
with ISR_RX the next line. A word of no bits places nothing (the event rows have no encoding, R59). -/
def placeWord (nbits w : Nat) (s : State) : State :=
  if nbits = 0 then s
  else { s with rxPending := some (tableByte nbits w), script := .free .isrRx :: s.script }

end Sys2Proof.Machine
end

