-- ==== Sys2Proof/Machine/Step.lean ====
section
/-! DEFINITION. One step: one stimulus, taken whole (00_scope.md R18, 20_memory.md R48). -/

namespace Sys2Proof.Machine

/-- Take the stimulus of line `l`. -/
def take (l : Line) (s : State) : Host.Outcome State Fault Refusal :=
  match exec l.event.toInstr (beginStep l s) with
  | .next t => .next (endStep l t)
  | .fault r => .fault r
  | .refused r => .refused r

/-- One step of the machine: the next stimulus is taken. -/
def step (s : State) : Host.Outcome State Fault Refusal := take (nextLine s).1 (nextLine s).2

/-- `s` with an opcode-table word placed where `step` reads its next instruction. -/
def State.withFetchWord (s : State) (nbits w : Nat) : State := placeWord nbits w s

end Sys2Proof.Machine
end

