-- ==== Sys2Proof/Machine/Script.lean ====
section
/-! DEFINITION. Stimulus scripts (30_encoding.md R62) and the pseudo-stimuli (R63). They are notation:
each fixes one schedule, and the machine's step does not depend on this file. -/

namespace Sys2Proof.Machine

/-- Go on from a next state; a stop is kept. -/
def andThen (o : Host.Outcome State Fault Refusal) (f : State → Host.Outcome State Fault Refusal) :
    Host.Outcome State Fault Refusal :=
  match o with
  | .next s => f s
  | .fault r => .fault r
  | .refused r => .refused r

/-- Take the lines of a script in order (R62). -/
def takeAll : List Line → State → Host.Outcome State Fault Refusal
  | [], s => .next s
  | l :: ls, s => andThen (take l s) (takeAll ls)

/-- Load a script: what its lines say is taken before the free schedule goes on. -/
def State.withScript (s : State) (lines : List Line) : State := { s with script := lines }

/-- The serial bytes of a script: its RX operands, in order (R62). -/
def scriptBytes : List Line → List Byte
  | [] => []
  | ⟨.rx b, _⟩ :: ls => b :: scriptBytes ls
  | ⟨_, _⟩ :: ls => scriptBytes ls

/-- A service taken at once if it is enabled (R63, WAIT). -/
def serviceIfPending (e : Event) (s : State) : Host.Outcome State Fault Refusal :=
  if enabled e s then take (.plain e) s else .next s

/-- One microsecond of WAIT (R63): US_TICK, then ISR_CMP and ISR_OVF if pending. -/
def waitOne (s : State) : Host.Outcome State Fault Refusal :=
  andThen (take (.plain .usTick) s) fun t =>
    andThen (serviceIfPending .isrCmp t) (serviceIfPending .isrOvf)

/-- `WAIT n` (R63). -/
def wait : Nat → State → Host.Outcome State Fault Refusal
  | 0, s => .next s
  | n + 1, s => andThen (waitOne s) (wait n)

/-- A command of the script syntax: a stimulus, or a pseudo-stimulus of R63. -/
inductive Command where
  | stimulus (l : Line)
  | send (b : Byte)
  | clock
  | start
  | cont
  | stop
  | waitUs (n : Nat)
  | ms
  | press
  | release
  deriving DecidableEq, Repr

/-- `SEND b` (R63). -/
def sendLines (b : Byte) : List Line := [.plain (.rx b), .plain .isrRx]

/-- `MS` (R63). -/
def msLines : List Line := [.plain .msTick, .plain .housekeep]

/-- What a command does: its expansion, taken back to back (R63). -/
def Command.perform (c : Command) (s : State) : Host.Outcome State Fault Refusal :=
  match c with
  | .stimulus l => take l s
  | .send b => takeAll (sendLines b) s
  | .clock => takeAll (sendLines 0xF8#8) s
  | .start => takeAll (sendLines 0xFA#8) s
  | .cont => takeAll (sendLines 0xFB#8) s
  | .stop => takeAll (sendLines 0xFC#8) s
  | .waitUs n => wait n s
  | .ms => takeAll msLines s
  | .press => take (.plain (.switch true)) s
  | .release => take (.plain (.switch false)) s

/-- Perform commands in order. -/
def performAll : List Command → State → Host.Outcome State Fault Refusal
  | [], s => .next s
  | c :: cs, s => andThen (c.perform s) (performAll cs)

/-! ### The text of a line (R62) -/

/-- The characters that are tokens of their own: the braces, `=` and `,`. -/
def isPunctuation (c : Char) : Bool := c.toNat == 123 || c.toNat == 125 || c == '=' || c == ','

/-- The token read so far, if any. -/
def flushToken (acc : List Char) : List (List Char) := if acc.isEmpty then [] else [acc.reverse]

/-- The tokens of a line; text after `;` is a comment (R62). -/
def tokensOf : List Char → List Char → List (List Char)
  | acc, [] => flushToken acc
  | acc, c :: cs =>
    if c == ';' then flushToken acc
    else if c.isWhitespace then flushToken acc ++ tokensOf [] cs
    else if isPunctuation c then flushToken acc ++ [c] :: tokensOf [] cs
    else tokensOf (c :: acc) cs

/-- The value of a hexadecimal digit. -/
def hexDigit (c : Char) : Option Nat :=
  let n := c.toNat
  if 48 ≤ n ∧ n ≤ 57 then some (n - 48)
  else if 65 ≤ n ∧ n ≤ 70 then some (n - 55)
  else if 97 ≤ n ∧ n ≤ 102 then some (n - 87)
  else none

/-- A byte operand, `0xhh` (R62). -/
def byteOfToken : List Char → Option Byte
  | ['0', 'x', h, l] => do return BitVec.ofNat 8 (16 * (← hexDigit h) + (← hexDigit l))
  | _ => none

/-- A level or draw value, `0` or `1` (R62). -/
def bitOfToken : List Char → Option Bool
  | ['0'] => some false
  | ['1'] => some true
  | _ => none

/-- The count of WAIT, in decimal. -/
def countOfToken : Nat → List Char → Option Nat
  | n, [] => some n
  | n, c :: cs => if c.isDigit then countOfToken (10 * n + (c.toNat - 48)) cs else none

/-- Set the draw that a token names (R62). -/
def setDraw (name : List Char) (v : Bool) (d : Draws) : Option Draws :=
  if name = "discard_cmp".toList then some { d with discardCmp := v }
  else if name = "discard_ovf".toList then some { d with discardOvf := v }
  else if name = "glitch".toList then some { d with retriggerGlitch := v }
  else none

/-- The draws in braces after ISR_RX, less the opening brace; a draw omitted is false (R62). -/
def drawsOfTokens : Draws → List (List Char) → Option Draws
  | d, [name, ['='], v, [c]] => do
    if c.toNat = 125 then setDraw name (← bitOfToken v) d else none
  | d, name :: ['='] :: v :: [','] :: rest => do drawsOfTokens (← setDraw name (← bitOfToken v) d) rest
  | _, _ => none

/-- A line's command (R62, R63). -/
def commandOfTokens : List (List Char) → Option Command
  | [w] =>
    if w = "ISR_RX".toList then some (.stimulus (.plain .isrRx))
    else if w = "US_TICK".toList then some (.stimulus (.plain .usTick))
    else if w = "ISR_CMP".toList then some (.stimulus (.plain .isrCmp))
    else if w = "ISR_OVF".toList then some (.stimulus (.plain .isrOvf))
    else if w = "MS_TICK".toList then some (.stimulus (.plain .msTick))
    else if w = "HOUSEKEEP".toList then some (.stimulus (.plain .housekeep))
    else if w = "CLOCK".toList then some .clock
    else if w = "START".toList then some .start
    else if w = "CONTINUE".toList then some .cont
    else if w = "STOP".toList then some .stop
    else if w = "MS".toList then some .ms
    else if w = "PRESS".toList then some .press
    else if w = "RELEASE".toList then some .release
    else none
  | [w, x] =>
    if w = "RESET".toList then (bitOfToken x).map fun v => .stimulus (.plain (.reset v))
    else if w = "RX".toList then (byteOfToken x).map fun b => .stimulus (.plain (.rx b))
    else if w = "SWITCH".toList then (bitOfToken x).map fun v => .stimulus (.plain (.switch v))
    else if w = "SEND".toList then (byteOfToken x).map fun b => .send b
    else if w = "WAIT".toList then (countOfToken 0 x).map fun n => .waitUs n
    else none
  | w :: [c] :: rest =>
    if w = "ISR_RX".toList ∧ c.toNat = 123 then
      (drawsOfTokens Draws.allFalse rest).map fun d => .stimulus ⟨.isrRx, some d⟩
    else none
  | _ => none

/-- A script's commands, line by line; a line without tokens is skipped. `none` where a line is none of
R62 and R63. -/
def parseScript : List (List Char) → Option (List Command)
  | [] => some []
  | text :: lines =>
    if (tokensOf [] text).isEmpty then parseScript lines
    else do return (← commandOfTokens (tokensOf [] text)) :: (← parseScript lines)

end Sys2Proof.Machine
end

