-- ==== Sys2Proof/Safety.lean ====
section
/-! DEFINITION. The vocabulary of claims: good states (00_scope.md R18), the invariants of 10_state.md
R43, the meaning of the trace (R41), runs and fairness (60_exceptions.md R115), and the premises about
the environment that a claim may take. -/

namespace Sys2Proof.Machine

/-- A good final state has no fault bit set (R18, R99). -/
def State.good (s : State) : Bool := decide (s.faults = FaultBits.none)

/-- The widest pulse of a timer of `W` bits (R30, R43 item 5). -/
def maxWidth (W : Nat) : Nat := max Config.defaultWidthUs ((2 ^ W - 1) / 2)

/-- The invariants of R43 that speak of the Pulse Timer alone, for every counter width W (R7). -/
structure PulseTimer.Inv {W : Nat} (t : PulseTimer W) : Prop where
  /-- Item 2, first half. -/
  armed_runs : t.armed = true → t.running = true
  /-- Item 2, second half. -/
  armed_bound : t.armed = true → t.count ≤ t.cmp
  /-- Item 5. -/
  width_bound : t.cmp.toNat ≤ maxWidth W

/-- The invariants of R43 that relate fields of the state. Item 1 is the type of `beatCount`, item 6
is how the run line and the beat LED are defined, item 7 is a statement about steps. -/
structure StateInv (s : State) : Prop where
  /-- Items 2 and 5. -/
  timer : s.timer.Inv
  /-- Item 3: a high clock line has a pulse end still to come. -/
  pulse_ends : s.clockLine = true → s.timer.armed = true ∨ s.cmpPending = true
  /-- Item 4. -/
  stopped_unknown : s.timer.running = false → s.intervalValid = false ∨ s.ovfPending = true

/-- The level of a signal by the trace alone: its last entry, low where there is none (R41; the lines
are low after RESET, R116). -/
def lastLevel (sig : Signal) (es : List Edge) : Bool :=
  es.foldl (fun level e => if e.signal = sig then e.level else level) false

/-- The levels that a list of edges gives a signal, in order. -/
def levelsOf (sig : Signal) (es : List Edge) : List Bool :=
  (es.filter (fun e => decide (e.signal = sig))).map (·.level)

/-- The trace tells the truth: its last level of each line is the line's level, its times do not
decrease, and none lies in the future (R41). -/
structure TraceFaithful (s : State) : Prop where
  levels : ∀ sig, lastLevel sig s.trace = s.level sig
  ordered : s.trace.Pairwise (fun a b => a.time ≤ b.time)
  past : ∀ e ∈ s.trace, e.time ≤ s.nowUs

/-- What a claim observes of a run: its trace together with its final state (R41, D36). -/
structure Observation where
  trace : List Edge
  final : State
  deriving DecidableEq, Repr

/-- The observation of a run that ends in `s`. -/
def State.observation (s : State) : Observation := ⟨s.trace, s⟩

/-! ### Runs -/

/-- An infinite run: at each position a line is taken (R50). -/
def IsRun (st : Nat → State) (ln : Nat → Line) : Prop := ∀ n, take (ln n) (st n) = .next (st (n + 1))

/-- Over the taking of the lines from the state, `p` holds of each line and the state it is taken in. -/
def Along (p : Line → State → Prop) : List Line → State → Prop
  | [], _ => True
  | l :: ls, s => p l s ∧ ∀ t, take l s = .next t → Along p ls t

/-- The line services no Clock byte: every other byte may be serviced. -/
def noClock (l : Line) (s : State) : Prop := l.event = .isrRx → s.rxPending ≠ some 0xF8#8

/-- The line is no RESET, services no message byte, and its housekeeping pass does not toggle: so it
neither ends nor forgets the interval being measured, unless it services an overflow. -/
def staysInInterval (l : Line) (s : State) : Prop :=
  l.event.isReset = false ∧
  (l.event = .isrRx → ∀ b, s.rxPending = some b → decodeByte b = .ignore) ∧
  (l.event = .housekeep → ¬ (s.debounce = .idle ∧ s.switchRaw = true))

/-- The service steps (R103). -/
def services : List Event := [.isrRx, .isrCmp, .isrOvf, .housekeep]

/-- Fairness (R115): a service that stays enabled is eventually taken, and US_TICK occurs infinitely
often. -/
structure Fair (st : Nat → State) (ln : Nat → Line) : Prop where
  serviced : ∀ e ∈ services, ∀ n, (∀ m, n ≤ m → enabled e (st m) = true) → ∃ m, n ≤ m ∧ (ln m).event = e
  time : ∀ n, ∃ m, n ≤ m ∧ (ln m).event = .usTick

/-- `k` CLOCK operations, one after the other. -/
def clocks : Nat → State → Host.Outcome State Fault Refusal
  | 0, s => .next s
  | k + 1, s => andThen (exec .clock s) (clocks k)

/-- A housekeeping pass that samples the switch at `level`: SWITCH, MS_TICK, HOUSEKEEP. -/
def samplePass (level : Bool) (s : State) : Host.Outcome State Fault Refusal :=
  andThen (exec (.switch level) s) fun t => andThen (exec .msTick t) (exec .housekeep)

/-- Housekeeping passes that sample the switch at the listed levels. -/
def samplePasses : List Bool → State → Host.Outcome State Fault Refusal
  | [], s => .next s
  | l :: ls, s => andThen (samplePass l s) (samplePasses ls)

/-- No housekeeping pass of the listed samples finds the switch pressed in Idle, so none toggles. -/
def noToggle : List Bool → State → Prop
  | [], _ => True
  | l :: ls, s => ¬ (s.debounce = .idle ∧ l = true) ∧ ∀ t, samplePass l s = .next t → noToggle ls t

/-- The microseconds that pass in a list of lines. -/
def ticksIn (ls : List Line) : Nat := ls.countP (fun l => decide (l.event = .usTick))

/-! ### Premises about the environment -/

/-- R124: each byte is serviced before the next arrives, each tick consumed before the next. The
arguments say whether one is waiting at the start. -/
def deadlinesMet : Bool → Bool → List Line → Bool
  | _, _, [] => true
  | byte, tick, l :: ls =>
    match l.event with
    | .rx _ => !byte && deadlinesMet true tick ls
    | .isrRx => deadlinesMet false tick ls
    | .msTick => !tick && deadlinesMet byte true ls
    | .housekeep => deadlinesMet byte false ls
    | .reset _ => deadlinesMet false false ls
    | .usTick | .isrCmp | .isrOvf | .switch _ => deadlinesMet byte tick ls

/-- R126: on a conforming line two bytes arrive at least a frame apart. `since` is the time since the
last arrival. -/
def conformingLine : Nat → List Line → Bool
  | _, [] => true
  | since, l :: ls =>
    match l.event with
    | .rx _ => decide (Config.frameUs ≤ since) && conformingLine 0 ls
    | .usTick => conformingLine (since + 1) ls
    | .isrRx | .isrCmp | .isrOvf | .msTick | .housekeep | .reset _ | .switch _ => conformingLine since ls

/-- R110, D33: `P_US_PER_MS` microseconds pass between two millisecond ticks. `since` is the time since
the last. -/
def ticksPerMs (usPerMs : Nat) : Nat → List Line → Bool
  | _, [] => true
  | since, l :: ls =>
    match l.event with
    | .msTick => decide (since = usPerMs) && ticksPerMs usPerMs 0 ls
    | .usTick => ticksPerMs usPerMs (since + 1) ls
    | .isrRx | .isrCmp | .isrOvf | .rx _ | .housekeep | .reset _ | .switch _ => ticksPerMs usPerMs since ls

end Sys2Proof.Machine
end

