-- ==== Sys2Proof/Certificates/Slice0/Obligations.lean ====
section
/-! DEFINITION. The statements for the provers, from the numbered rules of spec/. Where one rests on an
inference the spec marks as its own ([derived: …]) or on a choice of the model, its docstring says so. -/

open Sys2Proof Sys2Proof.Machine

/-! ### Encoding -/

/-- Decode and encode agree: every well-formed byte stimulus is read back from its encoding, the rest of
the stream untouched, and every byte is the encoding of the well-formed instruction it decodes to
(R58, R61, R64). -/
def Obligations.DecodeInvertsEncode : Prop :=
  (∀ i bs rest, i.wf = true → encode i = some bs → decodeBytes (bs ++ rest) = .ok (i, rest)) ∧
  (∀ b : Byte, encode (instrOfByte b) = some [b] ∧ (instrOfByte b).wf = true)

/-- Vectors V1 to V17, written from the opcode map of R58. -/
def Obligations.TableWordsDecodeAsTheMapSays : Prop :=
  decodeTableWord 8 0b11111000 = some .clock ∧ decodeTableWord 8 0b11111010 = some .start ∧
  decodeTableWord 8 0b11111011 = some .cont ∧ decodeTableWord 8 0b11111100 = some .stop ∧
  decodeTableWord 8 0x00 = some (.ignore 0x00#8) ∧ decodeTableWord 8 0x3C = some (.ignore 0x3C#8) ∧
  decodeTableWord 8 0x78 = some (.ignore 0x78#8) ∧ decodeTableWord 8 0x7F = some (.ignore 0x7F#8) ∧
  decodeTableWord 8 0x80 = some (.ignore 0x80#8) ∧ decodeTableWord 8 0x90 = some (.ignore 0x90#8) ∧
  decodeTableWord 8 0xF0 = some (.ignore 0xF0#8) ∧ decodeTableWord 8 0xF2 = some (.ignore 0xF2#8) ∧
  decodeTableWord 8 0xF7 = some (.ignore 0xF7#8) ∧ decodeTableWord 8 0xF9 = some (.ignore 0xF9#8) ∧
  decodeTableWord 8 0xFD = some (.ignore 0xFD#8) ∧ decodeTableWord 8 0xFE = some (.ignore 0xFE#8) ∧
  decodeTableWord 8 0xFF = some (.ignore 0xFF#8)

/-! ### The step -/

/-- A step runs the decoded instruction: where the next line is an ISR_RX and a byte is pending, the
step is exec of the instruction the byte decodes to, on the state without that byte; the step adds the
line's draws and the count of the stimulus. The script is the model's (log entry 2). -/
def Obligations.StepRunsTheDecodedByte : Prop :=
  ∀ (s : State) (d : Option Draws) (rest : List Line) (b : Byte) (i : Instr),
    s.script = ⟨.isrRx, d⟩ :: rest → s.rxPending = some b → decodeBytes [b] = .ok (i, []) →
    step s =
      match exec i { s with script := rest, draw := d, rxPending := none } with
      | .next t => .next { t with draw := none, cursor := t.cursor + 1 }
      | .fault r => .fault r
      | .refused r => .refused r

/-- A step takes the script's first line where that stimulus is enabled: it is exec of the stimulus, and
the step adds the line's draws and the count (R20). The script is the model's (log entry 2). -/
def Obligations.StepTakesTheNextStimulus : Prop :=
  ∀ (s : State) (l : Line) (rest : List Line), s.script = l :: rest → enabled l.event s = true →
    step s =
      match exec l.event.toInstr { s with script := rest, draw := l.draws } with
      | .next t =>
        .next { t with draw := none, cursor := if l.event.isReset then t.cursor else t.cursor + 1 }
      | .fault r => .fault r
      | .refused r => .refused r

/-- A placed opcode-table word is what the very next step runs. Where the word is placed is the model's
choice (log entry 2). -/
def Obligations.PlacedWordRunsNext : Prop :=
  ∀ (s : State) (nbits w : Nat) (i : Instr), decodeTableWord nbits w = some i →
    step (s.withFetchWord nbits w) =
      match exec i { s with draw := none, rxPending := none } with
      | .next t => .next { t with draw := none, cursor := t.cursor + 1 }
      | .fault r => .fault r
      | .refused r => .refused r

/-- No stimulus is refused and nothing stops the machine: every step answers a next state (R18, R97).
That a script line not enabled waits while the schedule goes on is the model's reading of R17 (log
entry 2). -/
def Obligations.StepAlwaysGoesOn : Prop := ∀ s : State, ∃ t, step s = .next t

/-- A stimulus has a step exactly in the states where it is enabled (R17, R59). -/
def Obligations.StimulusStepsExactlyWhenEnabled : Prop :=
  ∀ (l : Line) (s : State), (∃ t, take l s = .next t) ↔
    match l.event with
    | .isrRx => s.rxPending ≠ none
    | .isrCmp => s.cmpPending = true
    | .isrOvf => s.ovfPending = true
    | .housekeep => s.tickFlag = true
    | .reset _ | .rx _ | .usTick | .msTick | .switch _ => True

/-- RESET sets the cursor to 0; every other stimulus advances it by exactly 1 (R20). -/
def Obligations.CursorCountsStimuli : Prop :=
  ∀ (l : Line) (s t : State), take l s = .next t →
    t.cursor = match l.event with
      | .reset _ => 0
      | .rx _ | .isrRx | .usTick | .isrCmp | .isrOvf | .msTick | .housekeep | .switch _ => s.cursor + 1

/-- Ghost time: only US_TICK changes it, by adding 1; RESET sets it to 0 (R41, R116). -/
def Obligations.TimeIsCountedByUsTick : Prop :=
  ∀ (l : Line) (s t : State), take l s = .next t →
    t.nowUs = match l.event with
      | .reset _ => 0
      | .usTick => s.nowUs + 1
      | .rx _ | .isrRx | .isrCmp | .isrOvf | .msTick | .housekeep | .switch _ => s.nowUs

/-! ### Message decoder -/

/-- RX (R65): a byte that finds none pending waits for service; a byte that finds one pending is lost, the
earlier byte is kept and RxOverrun is recorded (D15). Nothing else changes. -/
def Obligations.RxHoldsTheByteOrRecordsTheOverrun : Prop :=
  ∀ (b : Byte) (s : State),
    (s.rxPending = none → exec (.rx b) s = .next { s with rxPending := some b }) ∧
    (∀ c, s.rxPending = some c →
      exec (.rx b) s = .next { s with faults := ⟨true, s.faults.tickOverrun⟩ })

/-- ISR_RX (R66): it consumes the pending byte and performs the operation the byte decodes to, in one step;
without a pending byte it has no step. -/
def Obligations.IsrRxPerformsTheDecodedByte : Prop :=
  ∀ s : State,
    (s.rxPending = none → exec .isrRx s = .refused .noPendingByte) ∧
    (∀ b, s.rxPending = some b →
      ∃ t, exec .isrRx s = .next t ∧ exec (instrOfByte b) { s with rxPending := none } = .next t ∧
        t.rxPending = none)

/-- IGNORE writes nothing, and a serviced byte other than F8, FA, FB, FC changes nothing but that it is
consumed (R60, R66, R67). -/
def Obligations.IgnoredByteChangesNothing : Prop :=
  (∀ (b : Byte) (s : State), exec (.ignore b) s = .next s) ∧
  (∀ (b : Byte) (s : State), s.rxPending = some b →
    b ≠ 0xF8#8 → b ≠ 0xFA#8 → b ≠ 0xFB#8 → b ≠ 0xFC#8 →
    exec .isrRx s = .next { s with rxPending := none })

/-! ### Pulse timing engine -/

/-- CLOCK (R69), by its six steps: the line is driven high, with a rising edge where it was low and the glitch
pair or nothing where it was high; the width is half the known interval or 5000; the compare is armed and
each pending interrupt kept or cleared by its draw; the measurement restarts; the beat advances; the
activity LED is reloaded. Nothing else of the machine changes. The draws `d` are those the script line
fixes, and any draws where it fixes none; `n` is the model's count of free values. -/
def Obligations.ClockPerformsItsSixSteps : Prop :=
  ∀ s : State, ∃ (d : Draws) (n : Nat), (∀ d', s.draw = some d' → d = d') ∧
    exec .clock s = .next { s with
      clockLine := true
      trace := s.trace ++
        (if s.clockLine = true then
          (if d.retriggerGlitch = true then
            [⟨s.nowUs, .clockLine, false⟩, ⟨s.nowUs, .clockLine, true⟩] else [])
        else [⟨s.nowUs, .clockLine, true⟩])
      timer := {
        count := 0#Config.timerWidth
        running := true
        cmp := if s.intervalValid = true ∧ s.timer.running = true then s.timer.count / 2#Config.timerWidth
          else 5000#Config.timerWidth
        armed := true }
      cmpPending := if d.discardCmp = true then false else s.cmpPending
      ovfPending := if d.discardOvf = true then false else s.ovfPending
      intervalValid := true
      beatCount := if s.beatCount.val + 1 = 24 then 0 else s.beatCount + 1
      beatLedTimer := if s.beatCount.val + 1 = 24 then Config.beatLedMs else s.beatLedTimer
      midiLedTimer := Config.midiLedMs
      freeIndex := n }

/-- CLOCK is performed the same way whatever the transport state and leaves it alone; while Stopped the beat
LED stays dark (R68). -/
def Obligations.ClockIsNotGatedByTheTransport : Prop :=
  ∀ (s : State) (r : Bool), ∃ t, exec .clock s = .next t ∧ t.running = s.running ∧
    (s.running = false → t.beatLed = false) ∧
    exec .clock { s with running := r } = .next { t with running := r }

/-- The beat position over any number of CLOCKs (R71): it goes round 0..23, and 24 CLOCKs from 0 arm the
beat LED on the 24th and on none before. -/
def Obligations.BeatGoesRoundIn24Clocks : Prop :=
  ∀ (k : Nat) (s : State), ∃ t, clocks k s = .next t ∧
    t.beatCount.val = (s.beatCount.val + k) % 24 ∧
    (s.beatCount.val + k < 24 → t.beatLedTimer = s.beatLedTimer) ∧
    (s.beatCount.val + k = 24 → t.beatLedTimer = Config.beatLedMs)

/-- US_TICK (R73): a microsecond passes. A stopped timer does nothing; at the counter's last value the timer
overflows, stops and makes its interrupt pending; below it the counter goes up by one, and an armed compare
fires, once, exactly where the counter has reached it. Nothing else changes. -/
def Obligations.UsTickRunsThePulseTimer : Prop :=
  ∀ s : State,
    (s.timer.running = false → exec .usTick s = .next { s with nowUs := s.nowUs + 1 }) ∧
    (s.timer.running = true → s.timer.count.toNat = 65535 →
      exec .usTick s = .next { s with
        nowUs := s.nowUs + 1, ovfPending := true
        timer := { s.timer with count := 0#Config.timerWidth, running := false } }) ∧
    (s.timer.running = true → s.timer.count.toNat < 65535 →
      ∃ c : Ticks, c.toNat = s.timer.count.toNat + 1 ∧
        exec .usTick s = .next { s with
          nowUs := s.nowUs + 1
          timer := { s.timer with
            count := c
            armed := if s.timer.armed = true ∧ s.timer.cmp.toNat ≤ c.toNat then false else s.timer.armed }
          cmpPending :=
            if s.timer.armed = true ∧ s.timer.cmp.toNat ≤ c.toNat then true else s.cmpPending })

/-- Compare and overflow never happen on the same tick ([derived] in R73, R104, R43 item 5): a tick that
overflows neither fires nor disarms a compare, from every state that meets the invariants. -/
def Obligations.OverflowMeetsNoArmedCompare : Prop :=
  ∀ s t : State, StateInv s → exec .usTick s = .next t → s.timer.running = true → t.timer.running = false →
    s.timer.armed = false ∧ t.timer.armed = false ∧ t.cmpPending = s.cmpPending

/-- ISR_CMP (R76): the flag is cleared and the line is low, with an edge exactly where it was high; without
the flag it has no step. -/
def Obligations.IsrCmpEndsThePulse : Prop :=
  ∀ s : State,
    (s.cmpPending = false → exec .isrCmp s = .refused .noPendingCompare) ∧
    (s.cmpPending = true →
      exec .isrCmp s = .next { s with
        cmpPending := false, clockLine := false
        trace := if s.clockLine = true then s.trace ++ [⟨s.nowUs, .clockLine, false⟩] else s.trace })

/-- ISR_OVF (R77): the flag is cleared and the interval is unknown; nothing else changes; without the flag
it has no step. -/
def Obligations.IsrOvfForgetsTheInterval : Prop :=
  ∀ s : State,
    (s.ovfPending = false → exec .isrOvf s = .refused .noPendingOverflow) ∧
    (s.ovfPending = true →
      exec .isrOvf s = .next { s with ovfPending := false, intervalValid := false })

/-- The counter measures the time since the CLOCK that restarted it (R28, R73, R75), over every sequence
of stimuli that services no Clock byte and does not reset: it holds the number of US_TICKs, and from 2^16
of them on the timer has stopped. -/
def Obligations.CounterMeasuresElapsedTime : Prop :=
  ∀ (ls : List Line) (s t : State), s.timer.running = true → s.timer.count.toNat = 0 →
    Along (fun l u => noClock l u ∧ l.event.isReset = false) ls s → takeAll ls s = .next t →
    (ticksIn ls < 65536 → t.timer.running = true ∧ t.timer.count.toNat = ticksIn ls) ∧
    (65536 ≤ ticksIn ls → t.timer.running = false)

/-- The width of the next pulse (R70, R72, R75, R127; S1, S9), over every sequence of stimuli between two
CLOCKs that does not reset, services no message byte and toggles in no housekeeping pass (ignored bytes
and other passes may come): half the time between the CLOCKs, rounded down. It is 5000 from 2^16
microseconds on, and where the first CLOCK kept an overflow interrupt that is serviced in between. -/
def Obligations.NextPulseIsHalfTheInterval : Prop :=
  ∀ (ls : List Line) (s₀ s t u : State), exec .clock s₀ = .next s → Along staysInInterval ls s →
    takeAll ls s = .next t → exec .clock t = .next u →
    u.timer.cmp.toNat =
      if ticksIn ls < 65536 ∧ ¬ (s.ovfPending = true ∧ ∃ l ∈ ls, l.event = .isrOvf) then ticksIn ls / 2
      else 5000

/-- The first CLOCK after START, CONTINUE or STOP has the default width (R81, R82; S2), over every sequence
of stimuli in which no Clock byte is serviced: other bytes, further STARTs and STOPs among them, toggles
and a RESET may come. -/
def Obligations.FirstClockAfterTransportIsDefault : Prop :=
  ∀ (i : Instr) (ls : List Line) (s₀ s t u : State), i = .start ∨ i = .cont ∨ i = .stop →
    exec i s₀ = .next s → Along noClock ls s → takeAll ls s = .next t →
    exec .clock t = .next u → u.timer.cmp.toNat = 5000

/-- Pulse timing without latency (R79, R128, [derived]): after a CLOCK with no compare left pending,
under the schedule WAIT n the line is high exactly while fewer than max(w, 1) microseconds have passed,
and its fall is recorded at that time. -/
def Obligations.PulseLastsItsWidth : Prop :=
  ∀ (n : Nat) (s₀ s : State), exec .clock s₀ = .next s → s.cmpPending = false →
    ∃ t, wait n s = .next t ∧ t.nowUs = s.nowUs + n ∧
      t.clockLine = decide (n < max s.timer.cmp.toNat 1) ∧
      t.trace = if n < max s.timer.cmp.toNat 1 then s.trace
        else s.trace ++ [⟨s.nowUs + max s.timer.cmp.toNat 1, .clockLine, false⟩]

/-- What counter and compare hold while the timer is stopped is never used (R78, [derived]): an
instruction gives the same next state but for these two values, and the same to the last bit where it
leaves the timer running. -/
def Obligations.StoppedTimerValuesAreNeverRead : Prop :=
  ∀ (i : Instr) (s t : State) (c m : Ticks), s.timer.running = false → exec i s = .next t →
    ∃ t', exec i { s with timer := { s.timer with count := c, cmp := m } } = .next t' ∧
      { t' with timer := { t'.timer with count := t.timer.count, cmp := t.timer.cmp } } = t ∧
      (t.timer.running = true → t' = t)

/-- The race of R121 ([derived]): a compare has fired on a high line and a Clock byte is pending. Its
three outcomes: ISR_CMP first, the line falls and rises; ISR_RX first with the interrupt kept, the later
ISR_CMP cuts the new pulse; ISR_RX first with the interrupt discarded, the pulse keeps its width. -/
def Obligations.CompareRaceHasThreeOutcomes : Prop :=
  ∀ (s : State) (o : Bool), s.clockLine = true → s.cmpPending = true → s.rxPending = some 0xF8#8 →
    (∃ t, takeAll [.plain .isrCmp, ⟨.isrRx, some ⟨false, o, false⟩⟩] s = .next t ∧
      t.clockLine = true ∧ t.timer.armed = true ∧ t.cmpPending = false ∧
      t.trace = s.trace ++ [⟨s.nowUs, .clockLine, false⟩, ⟨s.nowUs, .clockLine, true⟩]) ∧
    (∃ t, takeAll [⟨.isrRx, some ⟨false, o, false⟩⟩, .plain .isrCmp] s = .next t ∧
      t.clockLine = false ∧ t.timer.armed = true ∧ t.cmpPending = false ∧
      t.trace = s.trace ++ [⟨s.nowUs, .clockLine, false⟩]) ∧
    (∃ t, takeAll [⟨.isrRx, some ⟨true, o, false⟩⟩] s = .next t ∧
      t.clockLine = true ∧ t.timer.armed = true ∧ t.cmpPending = false ∧ t.trace = s.trace)

/-- The race of R122 ([derived]): the timer has overflowed and a Clock byte is pending. The pulse has the
default width in every order; the interval then measured is known, but where ISR_RX comes first and
keeps the interrupt. -/
def Obligations.OverflowRaceHasThreeOutcomes : Prop :=
  ∀ (s : State) (c g : Bool), s.timer.running = false → s.ovfPending = true →
    s.rxPending = some 0xF8#8 →
    (∃ t, takeAll [.plain .isrOvf, ⟨.isrRx, some ⟨c, false, g⟩⟩] s = .next t ∧
      t.timer.cmp.toNat = 5000 ∧ t.intervalKnown = true ∧ t.ovfPending = false) ∧
    (∃ t, takeAll [⟨.isrRx, some ⟨c, true, g⟩⟩] s = .next t ∧
      t.timer.cmp.toNat = 5000 ∧ t.intervalKnown = true ∧ t.ovfPending = false) ∧
    (∃ t, takeAll [⟨.isrRx, some ⟨c, false, g⟩⟩, .plain .isrOvf] s = .next t ∧
      t.timer.cmp.toNat = 5000 ∧ t.intervalKnown = false ∧ t.ovfPending = false)

/-! ### Transport -/

/-- START and CONTINUE (R81, R83, R84, R87): the run line is high, with an edge exactly where it was low;
the beat position is 0, the beat LED is armed, the interval is unknown; nothing else changes. -/
def Obligations.StartAndContinueEnterRunning : Prop :=
  ∀ (i : Instr) (s : State), i = .start ∨ i = .cont →
    exec i s = .next { s with
      running := true, beatCount := 0, beatLedTimer := Config.beatLedMs, intervalValid := false
      trace := if s.running = true then s.trace else s.trace ++ [⟨s.nowUs, .runLine, true⟩] }

/-- STOP (R82, R85): the run line is low, with an edge exactly where it was high; the interval is unknown;
the beat LED is dark; nothing else changes, the beat position and the Pulse Timer least of all. -/
def Obligations.StopEntersStopped : Prop :=
  ∀ s : State, ∃ t, exec .stop s = .next t ∧ t.beatLed = false ∧
    t = { s with
      running := false, intervalValid := false
      trace := if s.running = true then s.trace ++ [⟨s.nowUs, .runLine, false⟩] else s.trace }

/-- No other stimulus changes `running` (R88): a change comes from START, CONTINUE, STOP (by themselves
or as the serviced byte), from a pass that finds the switch pressed in Idle, or from RESET. -/
def Obligations.OnlyTransportStimuliChangeRunning : Prop :=
  ∀ (i : Instr) (s t : State), exec i s = .next t → t.running ≠ s.running →
    i = .start ∨ i = .cont ∨ i = .stop ∨ (∃ l0, i = .reset l0) ∨
    (i = .isrRx ∧ ∃ b, s.rxPending = some b ∧ (b = 0xFA#8 ∨ b = 0xFB#8 ∨ b = 0xFC#8)) ∨
    (i = .housekeep ∧ s.debounce = .idle ∧ s.switchRaw = true)

/-! ### Who writes what -/

/-- Only CLOCK and US_TICK access the Pulse Timer (R109, R28 to R31): every other instruction leaves its
counter, run state, compare and arming alone. -/
def Obligations.OnlyClockAndTickWriteTheTimer : Prop :=
  ∀ (i : Instr) (s t : State), exec i s = .next t → i ≠ .clock → i ≠ .usTick → (∀ l0, i ≠ .reset l0) →
    ¬ (i = .isrRx ∧ s.rxPending = some 0xF8#8) →
    t.timer = s.timer

/-- The clock line is written by CLOCK, which sets it, and by ISR_CMP, which clears it (R25); RESET sets
it low. -/
def Obligations.OnlyClockAndIsrCmpDriveTheClockLine : Prop :=
  ∀ (i : Instr) (s t : State), exec i s = .next t → t.clockLine ≠ s.clockLine →
    (t.clockLine = true ∧ (i = .clock ∨ (i = .isrRx ∧ s.rxPending = some 0xF8#8))) ∨
    (t.clockLine = false ∧ (i = .isrCmp ∨ ∃ l0, i = .reset l0))

/-- The fault bits (R38): no stimulus other than RESET removes one, RESET leaves none, RxOverrun is added only
by RX, TickOverrun only by MS_TICK. -/
def Obligations.FaultsOnlyGrowBetweenResets : Prop :=
  (∀ (i : Instr) (s t : State), exec i s = .next t → (∀ l0, i ≠ .reset l0) →
    (s.faults.rxOverrun = true → t.faults.rxOverrun = true) ∧
    (s.faults.tickOverrun = true → t.faults.tickOverrun = true) ∧
    (s.faults.rxOverrun = false → t.faults.rxOverrun = true → ∃ b, i = .rx b) ∧
    (s.faults.tickOverrun = false → t.faults.tickOverrun = true → i = .msTick)) ∧
  (∀ (l0 : Bool) (s t : State), exec (.reset l0) s = .next t → t.faults = ⟨false, false⟩)

/-- Each pending element has its own writers (R32 to R35, R100): the timer interrupts become pending only by
US_TICK and are cleared only by their service, by a CLOCK and by RESET; the byte arrives by RX and goes by
ISR_RX; the tick flag is set by MS_TICK and cleared by HOUSEKEEP. -/
def Obligations.PendingElementsHaveTheirOwnWriters : Prop :=
  ∀ (i : Instr) (s t : State), exec i s = .next t → (∀ l0, i ≠ .reset l0) →
    (s.cmpPending = false → t.cmpPending = true → i = .usTick) ∧
    (s.cmpPending = true → t.cmpPending = false →
      i = .isrCmp ∨ i = .clock ∨ (i = .isrRx ∧ s.rxPending = some 0xF8#8)) ∧
    (s.ovfPending = false → t.ovfPending = true → i = .usTick) ∧
    (s.ovfPending = true → t.ovfPending = false →
      i = .isrOvf ∨ i = .clock ∨ (i = .isrRx ∧ s.rxPending = some 0xF8#8)) ∧
    (t.rxPending ≠ s.rxPending →
      (s.rxPending = none ∧ ∃ b, i = .rx b ∧ t.rxPending = some b) ∨
      (i = .isrRx ∧ t.rxPending = none)) ∧
    (t.tickFlag ≠ s.tickFlag →
      (i = .msTick ∧ t.tickFlag = true) ∨ (i = .housekeep ∧ t.tickFlag = false))

/-- Who writes the beat and the LED countdowns (R22 to R24), RESET apart: the beat position is written by
CLOCK and on entering Running, the activity LED's countdown by CLOCK and HOUSEKEEP, the beat LED's by CLOCK
on completing a beat, on entering Running and by HOUSEKEEP. -/
def Obligations.BeatAndLedCountersHaveTheirOwnWriters : Prop :=
  ∀ (i : Instr) (s t : State), exec i s = .next t → (∀ l0, i ≠ .reset l0) →
    (t.beatCount ≠ s.beatCount →
      i = .clock ∨ i = .start ∨ i = .cont ∨
      (i = .isrRx ∧ ∃ b, s.rxPending = some b ∧ (b = 0xF8#8 ∨ b = 0xFA#8 ∨ b = 0xFB#8)) ∨
      (i = .housekeep ∧ s.debounce = .idle ∧ s.switchRaw = true ∧ s.running = false)) ∧
    (t.midiLedTimer ≠ s.midiLedTimer →
      i = .clock ∨ (i = .isrRx ∧ s.rxPending = some 0xF8#8) ∨ i = .housekeep) ∧
    (t.beatLedTimer ≠ s.beatLedTimer →
      (i = .clock ∧ s.beatCount.val = 23) ∨ i = .start ∨ i = .cont ∨
      (i = .isrRx ∧ ∃ b, s.rxPending = some b ∧
        ((b = 0xF8#8 ∧ s.beatCount.val = 23) ∨ b = 0xFA#8 ∨ b = 0xFB#8)) ∨
      i = .housekeep)

/-- `switch_raw` is written only by SWITCH and RESET, and `debounce` only by HOUSEKEEP and RESET (R36,
R37). -/
def Obligations.OnlySwitchAndHousekeepWriteTheSwitchState : Prop :=
  ∀ (i : Instr) (s t : State), exec i s = .next t → (∀ l0, i ≠ .reset l0) →
    ((∀ l, i ≠ .switch l) → t.switchRaw = s.switchRaw) ∧
    (i ≠ .housekeep → t.debounce = s.debounce)

/-- A step emits exactly what changes (R41, R72): the entries it adds carry the time of the step; for
each line there is one where its level changes and none where it does not, but for the glitch pair of a
CLOCK on a high line. -/
def Obligations.StepEmitsExactlyTheChanges : Prop :=
  ∀ (l : Line) (s t : State), take l s = .next t → l.event.isReset = false →
    ∃ es, t.trace = s.trace ++ es ∧ (∀ e ∈ es, e.time = s.nowUs) ∧
      levelsOf .runLine es = (if t.running = s.running then [] else [t.running]) ∧
      (levelsOf .clockLine es = (if t.clockLine = s.clockLine then [] else [t.clockLine]) ∨
        (levelsOf .clockLine es = [false, true] ∧ s.clockLine = true ∧ t.clockLine = true ∧
          l.event = .isrRx ∧ s.rxPending = some 0xF8#8))

/-! ### Housekeeping -/

/-- MS_TICK (R89): the flag is set; where it was already set, TickOverrun is recorded instead. -/
def Obligations.MsTickSetsTheFlagOrRecordsTheLoss : Prop :=
  ∀ s : State,
    (s.tickFlag = false → exec .msTick s = .next { s with tickFlag := true }) ∧
    (s.tickFlag = true → exec .msTick s = .next { s with faults := ⟨s.faults.rxOverrun, true⟩ })

/-- SWITCH l writes the raw level and nothing else (R95). -/
def Obligations.SwitchWritesTheLevel : Prop :=
  ∀ (l : Bool) (s : State), exec (.switch l) s = .next { s with switchRaw := l }

/-- HOUSEKEEP that does not toggle (R90, R92, R93, R94): the tick is consumed, both countdowns go down by
one, floored at 0, and the switch machine takes its one transition; without a tick HOUSEKEEP has no step. -/
def Obligations.HousekeepWithoutToggle : Prop :=
  ∀ s : State,
    (s.tickFlag = false → exec .housekeep s = .refused .noTick) ∧
    (s.tickFlag = true → ¬ (s.debounce = .idle ∧ s.switchRaw = true) →
      ∃ t, exec .housekeep s = .next t ∧ t.tickFlag = false ∧
        t.midiLedTimer.toNat = s.midiLedTimer.toNat - 1 ∧
        t.beatLedTimer.toNat = s.beatLedTimer.toNat - 1 ∧
        t.debounce = (match s.debounce with
          | .idle => .idle
          | .debouncing r => if r.toNat ≤ 1 then .waitingForRelease else .debouncing (r - 1#8)
          | .waitingForRelease => if s.switchRaw = true then .waitingForRelease else .idle) ∧
        t = { s with
          tickFlag := t.tickFlag, midiLedTimer := t.midiLedTimer, beatLedTimer := t.beatLedTimer
          debounce := t.debounce })

/-- HOUSEKEEP that finds the switch pressed in Idle (R86, R90, R91): the transport is toggled as by START
or STOP, and the debounce begins. That the countdown of the same pass sees the toggle's reload is the
model's reading (DEDUCED from D19 and program P5, log entry 8). -/
def Obligations.HousekeepTogglesOnAPress : Prop :=
  ∀ s : State, s.tickFlag = true → s.debounce = .idle → s.switchRaw = true →
    ∃ t, exec .housekeep s = .next t ∧ t.tickFlag = false ∧
      t.midiLedTimer.toNat = s.midiLedTimer.toNat - 1 ∧
      t.debounce = .debouncing Config.debounceMs ∧ t.intervalValid = false ∧
      t.running = !s.running ∧ t.trace = s.trace ++ [⟨s.nowUs, .runLine, !s.running⟩] ∧
      t.beatCount = (if s.running = true then s.beatCount else 0) ∧
      t.beatLedTimer.toNat =
        (if s.running = true then s.beatLedTimer.toNat else Config.beatLedMs.toNat) - 1 ∧
      t = { s with
        tickFlag := t.tickFlag, midiLedTimer := t.midiLedTimer, beatLedTimer := t.beatLedTimer
        debounce := t.debounce, intervalValid := t.intervalValid, running := t.running
        trace := t.trace, beatCount := t.beatCount }

/-- The OPEN durations are 1..255 (R11 to R14); which of them is free (log entry 5). -/
def Obligations.OpenDurationsAreInRange : Prop :=
  (1 ≤ Config.midiLedMs.toNat ∧ Config.midiLedMs.toNat ≤ 255) ∧
  (1 ≤ Config.beatLedMs.toNat ∧ Config.beatLedMs.toNat ≤ 255) ∧
  (1 ≤ Config.debounceMs.toNat ∧ Config.debounceMs.toNat ≤ 255)

/-- LED durations in passes (R94, R129, [derived]): from a countdown of D with no further reload the
activity LED is lit until the D-th following pass, whatever the switch does, and so is the beat LED while
Running, over all passes that do not toggle. -/
def Obligations.LedIsLitUntilThePassItsTimerNames : Prop :=
  (∀ (ls : List Bool) (s : State), ∃ t, samplePasses ls s = .next t ∧
    t.activityLed = decide (ls.length < s.midiLedTimer.toNat)) ∧
  (∀ (ls : List Bool) (s : State), noToggle ls s → ∃ t, samplePasses ls s = .next t ∧
    t.beatLed = (decide (ls.length < s.beatLedTimer.toNat) && s.running))

/-- The beat flash of a manual start (R81, R90, R91, R94, D19, [derived]): it is lit after the pass that
starts and until the P_BEAT_LED_MS-th pass, the starting pass counted, while the switch is held, and over
the debounce whatever the switch does. That the starting pass counts is the model's reading (DEDUCED from
D19 and program P5, log entry 8). -/
def Obligations.ManualStartFlashesTheBeatLed : Prop :=
  ∀ (ls : List Bool) (s : State), s.debounce = .idle → s.running = false →
    (ls.length ≤ Config.debounceMs.toNat + 1 ∨ ∀ l ∈ ls, l = true) →
    ∃ t, samplePasses (true :: ls) s = .next t ∧ t.running = true ∧
      t.beatLed = decide (ls.length + 1 < Config.beatLedMs.toNat)

/-- The debounce time (R92, [derived]): from Debouncing(r), r ≥ 1, the state is Debouncing(r − k) after
k < r passes and WaitingForRelease after r, whatever the switch does. -/
def Obligations.DebounceLastsItsPasses : Prop :=
  ∀ (ls : List Bool) (s : State) (r : Byte), s.debounce = .debouncing r → 1 ≤ r.toNat →
    ls.length ≤ r.toNat →
    ∃ t, samplePasses ls s = .next t ∧ t.running = s.running ∧
      t.debounce = if ls.length < r.toNat then .debouncing (r - BitVec.ofNat 8 ls.length)
        else .waitingForRelease

/-- Two toggles are at least P_DEBOUNCE_MS + 2 passes apart (R129, [derived]): after the pass that
toggles, no run of at most P_DEBOUNCE_MS + 1 passes toggles again, whatever the switch does. -/
def Obligations.TogglesAreSpacedByTheDebounce : Prop :=
  ∀ (ls : List Bool) (s : State), s.debounce = .idle → ls.length ≤ Config.debounceMs.toNat + 1 →
    ∃ t, samplePasses (true :: ls) s = .next t ∧ t.running = !s.running

/-- One toggle per press (R96, [derived]; S6): under the two bounce conditions a press and its release
give exactly one toggle, one entry of the run line in the trace, and the switch machine is back in Idle. -/
def Obligations.OnePressIsOneToggle : Prop :=
  ∀ (bounce : List Bool) (held released : Nat) (s : State), s.debounce = .idle →
    bounce.length = Config.debounceMs.toNat →
    ∃ t, samplePasses (true :: bounce ++ List.replicate held true ++ List.replicate (released + 1) false) s
        = .next t ∧
      t.running = !s.running ∧ t.trace = s.trace ++ [⟨s.nowUs, .runLine, !s.running⟩] ∧
      t.debounce = .idle

/-- Deadlines (R124, R65, R89): from a state without faults, a run in which every byte is serviced before
the next arrives and every tick consumed before the next records no fault. -/
def Obligations.MetDeadlinesRecordNoFault : Prop :=
  ∀ (ls : List Line) (s t : State), s.good = true →
    deadlinesMet s.rxPending.isSome s.tickFlag ls = true → takeAll ls s = .next t → t.good = true

/-! ### Reset -/

/-- RESET l0 from any state (R116): every element takes its reset value, the switch level is l0, and the
outputs are low and off. -/
def Obligations.ResetRestoresEveryElement : Prop :=
  ∀ (l0 : Bool) (s : State), ∃ t, exec (.reset l0) s = .next t ∧
    t.running = false ∧ t.beatCount = 0 ∧ t.midiLedTimer = 0#8 ∧ t.beatLedTimer = 0#8 ∧
    t.clockLine = false ∧ t.intervalValid = false ∧ t.timer.count.toNat = 0 ∧ t.timer.running = false ∧
    t.timer.cmp.toNat = 0 ∧ t.timer.armed = false ∧ t.cmpPending = false ∧ t.ovfPending = false ∧
    t.rxPending = none ∧ t.tickFlag = false ∧ t.switchRaw = l0 ∧ t.debounce = .idle ∧
    t.faults = ⟨false, false⟩ ∧ t.nowUs = 0 ∧ t.trace = [] ∧ t.cursor = 0 ∧
    t.runLine = false ∧ t.activityLed = false ∧ t.beatLed = false

/-- What reset leaves on the outputs: all four are low or off, and no fault is set (R116, R25, R26, R39,
R40). -/
def Obligations.ResetLeavesTheOutputsLow : Prop :=
  State.reset.clockLine = false ∧ State.reset.runLine = false ∧ State.reset.activityLed = false ∧
    State.reset.beatLed = false ∧ State.reset.good = true ∧ State.reset.intervalKnown = false

/-- The invariants of R43 and the trace's truth hold after reset ([derived] in R43). -/
def Obligations.ResetMeetsTheInvariants : Prop := StateInv State.reset ∧ TraceFaithful State.reset

/-! ### Invariants of every step -/

/-- P_TIMER_WIDTH (R7): it is 16 for this hardware, and at every width from 14 on the default width and
every measured half-interval are the numbers they should be and lie below the overflow point. -/
def Obligations.EveryTimerWidthHoldsThePulseWidths : Prop :=
  Config.timerWidth = 16 ∧
  ∀ W : Nat, 14 ≤ W → (lastCount W).toNat = 2 ^ W - 1 ∧
    ∀ (known : Bool) (e : BitVec W),
      (pulseWidth known e).toNat = (if known = true then e.toNat / 2 else 5000) ∧
      (pulseWidth known e).toNat < 2 ^ W - 1

/-- The Pulse Timer of every width from 14 on keeps its invariants (R7, R43 items 2 and 5, [derived]): each
of its operations with a width that `pulse_width` gives, its microsecond, and its reset; and an overflow
never meets an armed compare. -/
def Obligations.EveryPulseTimerKeepsItsInvariants : Prop :=
  ∀ W : Nat, 14 ≤ W → (PulseTimer.atReset W).Inv ∧ maxWidth W < 2 ^ W - 1 ∧
    ∀ t : PulseTimer W, t.Inv →
      t.tick.Inv ∧ (∀ known e, ((t.arm (pulseWidth known e)).restart).Inv) ∧
      (t.overflows = true → t.armed = false ∧ t.fires = false)

/-- Every step keeps the invariants of R43 ([derived] there), from every state that meets them, whatever
the schedule and the draws. -/
def Obligations.StepKeepsTheInvariants : Prop := ∀ s t : State, StateInv s → step s = .next t → StateInv t

/-- Every step keeps the trace truthful (R41): last levels are the lines' levels, times do not decrease
and none lies in the future. -/
def Obligations.StepKeepsTheTraceFaithful : Prop :=
  ∀ s t : State, TraceFaithful s → step s = .next t → TraceFaithful t

/-- Every pulse ends (R43 item 3, R115, R76, [derived]): in every fair run from a state that meets the
invariants, a high clock line is low at some later time, if no Clock byte is serviced from then on. -/
def Obligations.EveryPulseEndsUnderFairness : Prop :=
  ∀ (st : Nat → State) (ln : Nat → Line) (n : Nat), IsRun st ln → Fair st ln → StateInv (st 0) →
    (st n).clockLine = true →
    (∀ m, n ≤ m → noClock (ln m) (st m)) →
    ∃ m, n < m ∧ (st m).clockLine = false
end

