-- ==== Sys2Proof/Laws/Decode.lean ====
section
/-! SUPPORT. The decoder's spec lemmas (40_message_decoder.md R64, 30_encoding.md R58). -/

namespace Sys2Proof

/-- A byte is one of the four messages, or it is ignored (R64). -/
theorem decodeByte_cases (b : Byte) :
    (b = 0xF8#8 ∧ decodeByte b = .clock) ∨ (b = 0xFA#8 ∧ decodeByte b = .start) ∨
    (b = 0xFB#8 ∧ decodeByte b = .cont) ∨ (b = 0xFC#8 ∧ decodeByte b = .stop) ∨
    ((b ≠ 0xF8#8 ∧ b ≠ 0xFA#8 ∧ b ≠ 0xFB#8 ∧ b ≠ 0xFC#8) ∧ decodeByte b = .ignore) := by
  unfold decodeByte
  split_ifs <;> simp_all

/-- The decoder ignores exactly the bytes that are no message (R60). -/
theorem decodeByte_eq_ignore_iff (b : Byte) : decodeByte b = .ignore ↔ isMessageByte b = false := by
  unfold decodeByte isMessageByte
  split_ifs <;> simp_all

@[simp] theorem decodeByte_F8 : decodeByte 0xF8#8 = .clock := rfl
@[simp] theorem decodeByte_FA : decodeByte 0xFA#8 = .start := rfl
@[simp] theorem decodeByte_FB : decodeByte 0xFB#8 = .cont := rfl
@[simp] theorem decodeByte_FC : decodeByte 0xFC#8 = .stop := rfl

@[simp] theorem decodeBytes_cons (b : Byte) (rest : List Byte) :
    decodeBytes (b :: rest) = .ok (instrOfByte b, rest) := rfl

/-- An opcode-table word decodes exactly where it has bits, to the instruction of its byte. -/
theorem decodeTableWord_eq_some_iff (nbits w : Nat) (i : Instr) :
    decodeTableWord nbits w = some i ↔ nbits ≠ 0 ∧ instrOfByte (tableByte nbits w) = i := by
  unfold decodeTableWord
  split_ifs with h <;> simp [h, decodeBytes]

end Sys2Proof
end

