-- ==== Sys2Proof/Laws/State.lean ====
section
/-! SUPPORT. For each update of the state, what it does to each field: so that no proof unfolds a record
update. -/

namespace Sys2Proof.Machine

/-! ### `consumeByte` -/

@[simp] theorem consumeByte_running (s : State) : (consumeByte s).running = s.running := rfl
@[simp] theorem consumeByte_beatCount (s : State) : (consumeByte s).beatCount = s.beatCount := rfl
@[simp] theorem consumeByte_midiLedTimer (s : State) :
    (consumeByte s).midiLedTimer = s.midiLedTimer := rfl
@[simp] theorem consumeByte_beatLedTimer (s : State) :
    (consumeByte s).beatLedTimer = s.beatLedTimer := rfl
@[simp] theorem consumeByte_clockLine (s : State) : (consumeByte s).clockLine = s.clockLine := rfl
@[simp] theorem consumeByte_intervalValid (s : State) :
    (consumeByte s).intervalValid = s.intervalValid := rfl
@[simp] theorem consumeByte_timer (s : State) : (consumeByte s).timer = s.timer := rfl
@[simp] theorem consumeByte_cmpPending (s : State) :
    (consumeByte s).cmpPending = s.cmpPending := rfl
@[simp] theorem consumeByte_ovfPending (s : State) :
    (consumeByte s).ovfPending = s.ovfPending := rfl
@[simp] theorem consumeByte_rxPending (s : State) : (consumeByte s).rxPending = none := rfl
@[simp] theorem consumeByte_tickFlag (s : State) : (consumeByte s).tickFlag = s.tickFlag := rfl
@[simp] theorem consumeByte_switchRaw (s : State) : (consumeByte s).switchRaw = s.switchRaw := rfl
@[simp] theorem consumeByte_debounce (s : State) : (consumeByte s).debounce = s.debounce := rfl
@[simp] theorem consumeByte_faults (s : State) : (consumeByte s).faults = s.faults := rfl
@[simp] theorem consumeByte_nowUs (s : State) : (consumeByte s).nowUs = s.nowUs := rfl
@[simp] theorem consumeByte_trace (s : State) : (consumeByte s).trace = s.trace := rfl
@[simp] theorem consumeByte_cursor (s : State) : (consumeByte s).cursor = s.cursor := rfl
@[simp] theorem consumeByte_script (s : State) : (consumeByte s).script = s.script := rfl
@[simp] theorem consumeByte_draw (s : State) : (consumeByte s).draw = s.draw := rfl
@[simp] theorem consumeByte_freeIndex (s : State) : (consumeByte s).freeIndex = s.freeIndex := rfl

/-! ### `useFree` -/

@[simp] theorem useFree_running (s : State) : (useFree s).running = s.running := rfl
@[simp] theorem useFree_beatCount (s : State) : (useFree s).beatCount = s.beatCount := rfl
@[simp] theorem useFree_midiLedTimer (s : State) : (useFree s).midiLedTimer = s.midiLedTimer := rfl
@[simp] theorem useFree_beatLedTimer (s : State) : (useFree s).beatLedTimer = s.beatLedTimer := rfl
@[simp] theorem useFree_clockLine (s : State) : (useFree s).clockLine = s.clockLine := rfl
@[simp] theorem useFree_intervalValid (s : State) :
    (useFree s).intervalValid = s.intervalValid := rfl
@[simp] theorem useFree_timer (s : State) : (useFree s).timer = s.timer := rfl
@[simp] theorem useFree_cmpPending (s : State) : (useFree s).cmpPending = s.cmpPending := rfl
@[simp] theorem useFree_ovfPending (s : State) : (useFree s).ovfPending = s.ovfPending := rfl
@[simp] theorem useFree_rxPending (s : State) : (useFree s).rxPending = s.rxPending := rfl
@[simp] theorem useFree_tickFlag (s : State) : (useFree s).tickFlag = s.tickFlag := rfl
@[simp] theorem useFree_switchRaw (s : State) : (useFree s).switchRaw = s.switchRaw := rfl
@[simp] theorem useFree_debounce (s : State) : (useFree s).debounce = s.debounce := rfl
@[simp] theorem useFree_faults (s : State) : (useFree s).faults = s.faults := rfl
@[simp] theorem useFree_nowUs (s : State) : (useFree s).nowUs = s.nowUs := rfl
@[simp] theorem useFree_trace (s : State) : (useFree s).trace = s.trace := rfl
@[simp] theorem useFree_cursor (s : State) : (useFree s).cursor = s.cursor := rfl
@[simp] theorem useFree_script (s : State) : (useFree s).script = s.script := rfl
@[simp] theorem useFree_draw (s : State) : (useFree s).draw = s.draw := rfl
@[simp] theorem useFree_freeIndex (s : State) : (useFree s).freeIndex = s.freeIndex + 1 := rfl

/-! ### `raiseClockLine` -/

@[simp] theorem raiseClockLine_running (d : Draws) (s : State) :
    (raiseClockLine d s).running = s.running := rfl
@[simp] theorem raiseClockLine_beatCount (d : Draws) (s : State) :
    (raiseClockLine d s).beatCount = s.beatCount := rfl
@[simp] theorem raiseClockLine_midiLedTimer (d : Draws) (s : State) :
    (raiseClockLine d s).midiLedTimer = s.midiLedTimer := rfl
@[simp] theorem raiseClockLine_beatLedTimer (d : Draws) (s : State) :
    (raiseClockLine d s).beatLedTimer = s.beatLedTimer := rfl
@[simp] theorem raiseClockLine_clockLine (d : Draws) (s : State) :
    (raiseClockLine d s).clockLine = true := rfl
@[simp] theorem raiseClockLine_intervalValid (d : Draws) (s : State) :
    (raiseClockLine d s).intervalValid = s.intervalValid := rfl
@[simp] theorem raiseClockLine_timer (d : Draws) (s : State) :
    (raiseClockLine d s).timer = s.timer := rfl
@[simp] theorem raiseClockLine_cmpPending (d : Draws) (s : State) :
    (raiseClockLine d s).cmpPending = s.cmpPending := rfl
@[simp] theorem raiseClockLine_ovfPending (d : Draws) (s : State) :
    (raiseClockLine d s).ovfPending = s.ovfPending := rfl
@[simp] theorem raiseClockLine_rxPending (d : Draws) (s : State) :
    (raiseClockLine d s).rxPending = s.rxPending := rfl
@[simp] theorem raiseClockLine_tickFlag (d : Draws) (s : State) :
    (raiseClockLine d s).tickFlag = s.tickFlag := rfl
@[simp] theorem raiseClockLine_switchRaw (d : Draws) (s : State) :
    (raiseClockLine d s).switchRaw = s.switchRaw := rfl
@[simp] theorem raiseClockLine_debounce (d : Draws) (s : State) :
    (raiseClockLine d s).debounce = s.debounce := rfl
@[simp] theorem raiseClockLine_faults (d : Draws) (s : State) :
    (raiseClockLine d s).faults = s.faults := rfl
@[simp] theorem raiseClockLine_nowUs (d : Draws) (s : State) :
    (raiseClockLine d s).nowUs = s.nowUs := rfl
@[simp] theorem raiseClockLine_trace (d : Draws) (s : State) :
    (raiseClockLine d s).trace = s.trace ++ pulseStartEdges d s := rfl
@[simp] theorem raiseClockLine_cursor (d : Draws) (s : State) :
    (raiseClockLine d s).cursor = s.cursor := rfl
@[simp] theorem raiseClockLine_script (d : Draws) (s : State) :
    (raiseClockLine d s).script = s.script := rfl
@[simp] theorem raiseClockLine_draw (d : Draws) (s : State) :
    (raiseClockLine d s).draw = s.draw := rfl
@[simp] theorem raiseClockLine_freeIndex (d : Draws) (s : State) :
    (raiseClockLine d s).freeIndex = s.freeIndex := rfl

/-! ### `dropClockLine` -/

@[simp] theorem dropClockLine_running (s : State) : (dropClockLine s).running = s.running := rfl
@[simp] theorem dropClockLine_beatCount (s : State) :
    (dropClockLine s).beatCount = s.beatCount := rfl
@[simp] theorem dropClockLine_midiLedTimer (s : State) :
    (dropClockLine s).midiLedTimer = s.midiLedTimer := rfl
@[simp] theorem dropClockLine_beatLedTimer (s : State) :
    (dropClockLine s).beatLedTimer = s.beatLedTimer := rfl
@[simp] theorem dropClockLine_clockLine (s : State) : (dropClockLine s).clockLine = false := rfl
@[simp] theorem dropClockLine_intervalValid (s : State) :
    (dropClockLine s).intervalValid = s.intervalValid := rfl
@[simp] theorem dropClockLine_timer (s : State) : (dropClockLine s).timer = s.timer := rfl
@[simp] theorem dropClockLine_cmpPending (s : State) :
    (dropClockLine s).cmpPending = s.cmpPending := rfl
@[simp] theorem dropClockLine_ovfPending (s : State) :
    (dropClockLine s).ovfPending = s.ovfPending := rfl
@[simp] theorem dropClockLine_rxPending (s : State) :
    (dropClockLine s).rxPending = s.rxPending := rfl
@[simp] theorem dropClockLine_tickFlag (s : State) : (dropClockLine s).tickFlag = s.tickFlag := rfl
@[simp] theorem dropClockLine_switchRaw (s : State) :
    (dropClockLine s).switchRaw = s.switchRaw := rfl
@[simp] theorem dropClockLine_debounce (s : State) : (dropClockLine s).debounce = s.debounce := rfl
@[simp] theorem dropClockLine_faults (s : State) : (dropClockLine s).faults = s.faults := rfl
@[simp] theorem dropClockLine_nowUs (s : State) : (dropClockLine s).nowUs = s.nowUs := rfl
@[simp] theorem dropClockLine_trace (s : State) :
    (dropClockLine s).trace = s.trace ++ edgesOf s.nowUs .clockLine s.clockLine false := rfl
@[simp] theorem dropClockLine_cursor (s : State) : (dropClockLine s).cursor = s.cursor := rfl
@[simp] theorem dropClockLine_script (s : State) : (dropClockLine s).script = s.script := rfl
@[simp] theorem dropClockLine_draw (s : State) : (dropClockLine s).draw = s.draw := rfl
@[simp] theorem dropClockLine_freeIndex (s : State) :
    (dropClockLine s).freeIndex = s.freeIndex := rfl

/-! ### `armCompare` -/

@[simp] theorem armCompare_running (d : Draws) (w : Ticks) (s : State) :
    (armCompare d w s).running = s.running := rfl
@[simp] theorem armCompare_beatCount (d : Draws) (w : Ticks) (s : State) :
    (armCompare d w s).beatCount = s.beatCount := rfl
@[simp] theorem armCompare_midiLedTimer (d : Draws) (w : Ticks) (s : State) :
    (armCompare d w s).midiLedTimer = s.midiLedTimer := rfl
@[simp] theorem armCompare_beatLedTimer (d : Draws) (w : Ticks) (s : State) :
    (armCompare d w s).beatLedTimer = s.beatLedTimer := rfl
@[simp] theorem armCompare_clockLine (d : Draws) (w : Ticks) (s : State) :
    (armCompare d w s).clockLine = s.clockLine := rfl
@[simp] theorem armCompare_intervalValid (d : Draws) (w : Ticks) (s : State) :
    (armCompare d w s).intervalValid = s.intervalValid := rfl
@[simp] theorem armCompare_timer (d : Draws) (w : Ticks) (s : State) :
    (armCompare d w s).timer = s.timer.arm w := rfl
@[simp] theorem armCompare_cmpPending (d : Draws) (w : Ticks) (s : State) :
    (armCompare d w s).cmpPending = keptUnless d.discardCmp s.cmpPending := rfl
@[simp] theorem armCompare_ovfPending (d : Draws) (w : Ticks) (s : State) :
    (armCompare d w s).ovfPending = keptUnless d.discardOvf s.ovfPending := rfl
@[simp] theorem armCompare_rxPending (d : Draws) (w : Ticks) (s : State) :
    (armCompare d w s).rxPending = s.rxPending := rfl
@[simp] theorem armCompare_tickFlag (d : Draws) (w : Ticks) (s : State) :
    (armCompare d w s).tickFlag = s.tickFlag := rfl
@[simp] theorem armCompare_switchRaw (d : Draws) (w : Ticks) (s : State) :
    (armCompare d w s).switchRaw = s.switchRaw := rfl
@[simp] theorem armCompare_debounce (d : Draws) (w : Ticks) (s : State) :
    (armCompare d w s).debounce = s.debounce := rfl
@[simp] theorem armCompare_faults (d : Draws) (w : Ticks) (s : State) :
    (armCompare d w s).faults = s.faults := rfl
@[simp] theorem armCompare_nowUs (d : Draws) (w : Ticks) (s : State) :
    (armCompare d w s).nowUs = s.nowUs := rfl
@[simp] theorem armCompare_trace (d : Draws) (w : Ticks) (s : State) :
    (armCompare d w s).trace = s.trace := rfl
@[simp] theorem armCompare_cursor (d : Draws) (w : Ticks) (s : State) :
    (armCompare d w s).cursor = s.cursor := rfl
@[simp] theorem armCompare_script (d : Draws) (w : Ticks) (s : State) :
    (armCompare d w s).script = s.script := rfl
@[simp] theorem armCompare_draw (d : Draws) (w : Ticks) (s : State) :
    (armCompare d w s).draw = s.draw := rfl
@[simp] theorem armCompare_freeIndex (d : Draws) (w : Ticks) (s : State) :
    (armCompare d w s).freeIndex = s.freeIndex := rfl

/-! ### `restartTimer` -/

@[simp] theorem restartTimer_running (s : State) : (restartTimer s).running = s.running := rfl
@[simp] theorem restartTimer_beatCount (s : State) : (restartTimer s).beatCount = s.beatCount := rfl
@[simp] theorem restartTimer_midiLedTimer (s : State) :
    (restartTimer s).midiLedTimer = s.midiLedTimer := rfl
@[simp] theorem restartTimer_beatLedTimer (s : State) :
    (restartTimer s).beatLedTimer = s.beatLedTimer := rfl
@[simp] theorem restartTimer_clockLine (s : State) : (restartTimer s).clockLine = s.clockLine := rfl
@[simp] theorem restartTimer_intervalValid (s : State) :
    (restartTimer s).intervalValid = true := rfl
@[simp] theorem restartTimer_timer (s : State) : (restartTimer s).timer = s.timer.restart := rfl
@[simp] theorem restartTimer_cmpPending (s : State) :
    (restartTimer s).cmpPending = s.cmpPending := rfl
@[simp] theorem restartTimer_ovfPending (s : State) :
    (restartTimer s).ovfPending = s.ovfPending := rfl
@[simp] theorem restartTimer_rxPending (s : State) : (restartTimer s).rxPending = s.rxPending := rfl
@[simp] theorem restartTimer_tickFlag (s : State) : (restartTimer s).tickFlag = s.tickFlag := rfl
@[simp] theorem restartTimer_switchRaw (s : State) : (restartTimer s).switchRaw = s.switchRaw := rfl
@[simp] theorem restartTimer_debounce (s : State) : (restartTimer s).debounce = s.debounce := rfl
@[simp] theorem restartTimer_faults (s : State) : (restartTimer s).faults = s.faults := rfl
@[simp] theorem restartTimer_nowUs (s : State) : (restartTimer s).nowUs = s.nowUs := rfl
@[simp] theorem restartTimer_trace (s : State) : (restartTimer s).trace = s.trace := rfl
@[simp] theorem restartTimer_cursor (s : State) : (restartTimer s).cursor = s.cursor := rfl
@[simp] theorem restartTimer_script (s : State) : (restartTimer s).script = s.script := rfl
@[simp] theorem restartTimer_draw (s : State) : (restartTimer s).draw = s.draw := rfl
@[simp] theorem restartTimer_freeIndex (s : State) : (restartTimer s).freeIndex = s.freeIndex := rfl

/-! ### `beatStep` -/

@[simp] theorem beatStep_running (s : State) : (beatStep s).running = s.running := rfl
@[simp] theorem beatStep_beatCount (s : State) :
    (beatStep s).beatCount = if completesBeat s then 0 else s.beatCount + 1 := rfl
@[simp] theorem beatStep_midiLedTimer (s : State) :
    (beatStep s).midiLedTimer = s.midiLedTimer := rfl
@[simp] theorem beatStep_beatLedTimer (s : State) :
    (beatStep s).beatLedTimer = if completesBeat s then Config.beatLedMs else s.beatLedTimer := rfl
@[simp] theorem beatStep_clockLine (s : State) : (beatStep s).clockLine = s.clockLine := rfl
@[simp] theorem beatStep_intervalValid (s : State) :
    (beatStep s).intervalValid = s.intervalValid := rfl
@[simp] theorem beatStep_timer (s : State) : (beatStep s).timer = s.timer := rfl
@[simp] theorem beatStep_cmpPending (s : State) : (beatStep s).cmpPending = s.cmpPending := rfl
@[simp] theorem beatStep_ovfPending (s : State) : (beatStep s).ovfPending = s.ovfPending := rfl
@[simp] theorem beatStep_rxPending (s : State) : (beatStep s).rxPending = s.rxPending := rfl
@[simp] theorem beatStep_tickFlag (s : State) : (beatStep s).tickFlag = s.tickFlag := rfl
@[simp] theorem beatStep_switchRaw (s : State) : (beatStep s).switchRaw = s.switchRaw := rfl
@[simp] theorem beatStep_debounce (s : State) : (beatStep s).debounce = s.debounce := rfl
@[simp] theorem beatStep_faults (s : State) : (beatStep s).faults = s.faults := rfl
@[simp] theorem beatStep_nowUs (s : State) : (beatStep s).nowUs = s.nowUs := rfl
@[simp] theorem beatStep_trace (s : State) : (beatStep s).trace = s.trace := rfl
@[simp] theorem beatStep_cursor (s : State) : (beatStep s).cursor = s.cursor := rfl
@[simp] theorem beatStep_script (s : State) : (beatStep s).script = s.script := rfl
@[simp] theorem beatStep_draw (s : State) : (beatStep s).draw = s.draw := rfl
@[simp] theorem beatStep_freeIndex (s : State) : (beatStep s).freeIndex = s.freeIndex := rfl

/-! ### `reloadActivityLed` -/

@[simp] theorem reloadActivityLed_running (s : State) :
    (reloadActivityLed s).running = s.running := rfl
@[simp] theorem reloadActivityLed_beatCount (s : State) :
    (reloadActivityLed s).beatCount = s.beatCount := rfl
@[simp] theorem reloadActivityLed_midiLedTimer (s : State) :
    (reloadActivityLed s).midiLedTimer = Config.midiLedMs := rfl
@[simp] theorem reloadActivityLed_beatLedTimer (s : State) :
    (reloadActivityLed s).beatLedTimer = s.beatLedTimer := rfl
@[simp] theorem reloadActivityLed_clockLine (s : State) :
    (reloadActivityLed s).clockLine = s.clockLine := rfl
@[simp] theorem reloadActivityLed_intervalValid (s : State) :
    (reloadActivityLed s).intervalValid = s.intervalValid := rfl
@[simp] theorem reloadActivityLed_timer (s : State) : (reloadActivityLed s).timer = s.timer := rfl
@[simp] theorem reloadActivityLed_cmpPending (s : State) :
    (reloadActivityLed s).cmpPending = s.cmpPending := rfl
@[simp] theorem reloadActivityLed_ovfPending (s : State) :
    (reloadActivityLed s).ovfPending = s.ovfPending := rfl
@[simp] theorem reloadActivityLed_rxPending (s : State) :
    (reloadActivityLed s).rxPending = s.rxPending := rfl
@[simp] theorem reloadActivityLed_tickFlag (s : State) :
    (reloadActivityLed s).tickFlag = s.tickFlag := rfl
@[simp] theorem reloadActivityLed_switchRaw (s : State) :
    (reloadActivityLed s).switchRaw = s.switchRaw := rfl
@[simp] theorem reloadActivityLed_debounce (s : State) :
    (reloadActivityLed s).debounce = s.debounce := rfl
@[simp] theorem reloadActivityLed_faults (s : State) :
    (reloadActivityLed s).faults = s.faults := rfl
@[simp] theorem reloadActivityLed_nowUs (s : State) : (reloadActivityLed s).nowUs = s.nowUs := rfl
@[simp] theorem reloadActivityLed_trace (s : State) : (reloadActivityLed s).trace = s.trace := rfl
@[simp] theorem reloadActivityLed_cursor (s : State) :
    (reloadActivityLed s).cursor = s.cursor := rfl
@[simp] theorem reloadActivityLed_script (s : State) :
    (reloadActivityLed s).script = s.script := rfl
@[simp] theorem reloadActivityLed_draw (s : State) : (reloadActivityLed s).draw = s.draw := rfl
@[simp] theorem reloadActivityLed_freeIndex (s : State) :
    (reloadActivityLed s).freeIndex = s.freeIndex := rfl

/-! ### `performClock` -/

@[simp] theorem performClock_running (d : Draws) (s : State) :
    (performClock d s).running = s.running := rfl
@[simp] theorem performClock_beatCount (d : Draws) (s : State) :
    (performClock d s).beatCount = if completesBeat s then 0 else s.beatCount + 1 := rfl
@[simp] theorem performClock_midiLedTimer (d : Draws) (s : State) :
    (performClock d s).midiLedTimer = Config.midiLedMs := rfl
@[simp] theorem performClock_beatLedTimer (d : Draws) (s : State) :
    (performClock d s).beatLedTimer = if completesBeat s then Config.beatLedMs else s.beatLedTimer := rfl
@[simp] theorem performClock_clockLine (d : Draws) (s : State) :
    (performClock d s).clockLine = true := rfl
@[simp] theorem performClock_intervalValid (d : Draws) (s : State) :
    (performClock d s).intervalValid = true := rfl
@[simp] theorem performClock_timer (d : Draws) (s : State) :
    (performClock d s).timer = (s.timer.arm (pulseWidth s.intervalKnown s.timer.count)).restart := rfl
@[simp] theorem performClock_cmpPending (d : Draws) (s : State) :
    (performClock d s).cmpPending = keptUnless d.discardCmp s.cmpPending := rfl
@[simp] theorem performClock_ovfPending (d : Draws) (s : State) :
    (performClock d s).ovfPending = keptUnless d.discardOvf s.ovfPending := rfl
@[simp] theorem performClock_rxPending (d : Draws) (s : State) :
    (performClock d s).rxPending = s.rxPending := rfl
@[simp] theorem performClock_tickFlag (d : Draws) (s : State) :
    (performClock d s).tickFlag = s.tickFlag := rfl
@[simp] theorem performClock_switchRaw (d : Draws) (s : State) :
    (performClock d s).switchRaw = s.switchRaw := rfl
@[simp] theorem performClock_debounce (d : Draws) (s : State) :
    (performClock d s).debounce = s.debounce := rfl
@[simp] theorem performClock_faults (d : Draws) (s : State) :
    (performClock d s).faults = s.faults := rfl
@[simp] theorem performClock_nowUs (d : Draws) (s : State) :
    (performClock d s).nowUs = s.nowUs := rfl
@[simp] theorem performClock_trace (d : Draws) (s : State) :
    (performClock d s).trace = s.trace ++ pulseStartEdges d s := rfl
@[simp] theorem performClock_cursor (d : Draws) (s : State) :
    (performClock d s).cursor = s.cursor := rfl
@[simp] theorem performClock_script (d : Draws) (s : State) :
    (performClock d s).script = s.script := rfl
@[simp] theorem performClock_draw (d : Draws) (s : State) : (performClock d s).draw = s.draw := rfl
@[simp] theorem performClock_freeIndex (d : Draws) (s : State) :
    (performClock d s).freeIndex = s.freeIndex := rfl

/-! ### `advanceTime` -/

@[simp] theorem advanceTime_running (s : State) : (advanceTime s).running = s.running := rfl
@[simp] theorem advanceTime_beatCount (s : State) : (advanceTime s).beatCount = s.beatCount := rfl
@[simp] theorem advanceTime_midiLedTimer (s : State) :
    (advanceTime s).midiLedTimer = s.midiLedTimer := rfl
@[simp] theorem advanceTime_beatLedTimer (s : State) :
    (advanceTime s).beatLedTimer = s.beatLedTimer := rfl
@[simp] theorem advanceTime_clockLine (s : State) : (advanceTime s).clockLine = s.clockLine := rfl
@[simp] theorem advanceTime_intervalValid (s : State) :
    (advanceTime s).intervalValid = s.intervalValid := rfl
@[simp] theorem advanceTime_timer (s : State) : (advanceTime s).timer = s.timer := rfl
@[simp] theorem advanceTime_cmpPending (s : State) :
    (advanceTime s).cmpPending = s.cmpPending := rfl
@[simp] theorem advanceTime_ovfPending (s : State) :
    (advanceTime s).ovfPending = s.ovfPending := rfl
@[simp] theorem advanceTime_rxPending (s : State) : (advanceTime s).rxPending = s.rxPending := rfl
@[simp] theorem advanceTime_tickFlag (s : State) : (advanceTime s).tickFlag = s.tickFlag := rfl
@[simp] theorem advanceTime_switchRaw (s : State) : (advanceTime s).switchRaw = s.switchRaw := rfl
@[simp] theorem advanceTime_debounce (s : State) : (advanceTime s).debounce = s.debounce := rfl
@[simp] theorem advanceTime_faults (s : State) : (advanceTime s).faults = s.faults := rfl
@[simp] theorem advanceTime_nowUs (s : State) : (advanceTime s).nowUs = s.nowUs + 1 := rfl
@[simp] theorem advanceTime_trace (s : State) : (advanceTime s).trace = s.trace := rfl
@[simp] theorem advanceTime_cursor (s : State) : (advanceTime s).cursor = s.cursor := rfl
@[simp] theorem advanceTime_script (s : State) : (advanceTime s).script = s.script := rfl
@[simp] theorem advanceTime_draw (s : State) : (advanceTime s).draw = s.draw := rfl
@[simp] theorem advanceTime_freeIndex (s : State) : (advanceTime s).freeIndex = s.freeIndex := rfl

/-! ### `tickTimer` -/

@[simp] theorem tickTimer_running (s : State) : (tickTimer s).running = s.running := rfl
@[simp] theorem tickTimer_beatCount (s : State) : (tickTimer s).beatCount = s.beatCount := rfl
@[simp] theorem tickTimer_midiLedTimer (s : State) :
    (tickTimer s).midiLedTimer = s.midiLedTimer := rfl
@[simp] theorem tickTimer_beatLedTimer (s : State) :
    (tickTimer s).beatLedTimer = s.beatLedTimer := rfl
@[simp] theorem tickTimer_clockLine (s : State) : (tickTimer s).clockLine = s.clockLine := rfl
@[simp] theorem tickTimer_intervalValid (s : State) :
    (tickTimer s).intervalValid = s.intervalValid := rfl
@[simp] theorem tickTimer_timer (s : State) : (tickTimer s).timer = s.timer.tick := rfl
@[simp] theorem tickTimer_cmpPending (s : State) :
    (tickTimer s).cmpPending = (s.cmpPending || s.timer.fires) := rfl
@[simp] theorem tickTimer_ovfPending (s : State) :
    (tickTimer s).ovfPending = (s.ovfPending || s.timer.overflows) := rfl
@[simp] theorem tickTimer_rxPending (s : State) : (tickTimer s).rxPending = s.rxPending := rfl
@[simp] theorem tickTimer_tickFlag (s : State) : (tickTimer s).tickFlag = s.tickFlag := rfl
@[simp] theorem tickTimer_switchRaw (s : State) : (tickTimer s).switchRaw = s.switchRaw := rfl
@[simp] theorem tickTimer_debounce (s : State) : (tickTimer s).debounce = s.debounce := rfl
@[simp] theorem tickTimer_faults (s : State) : (tickTimer s).faults = s.faults := rfl
@[simp] theorem tickTimer_nowUs (s : State) : (tickTimer s).nowUs = s.nowUs := rfl
@[simp] theorem tickTimer_trace (s : State) : (tickTimer s).trace = s.trace := rfl
@[simp] theorem tickTimer_cursor (s : State) : (tickTimer s).cursor = s.cursor := rfl
@[simp] theorem tickTimer_script (s : State) : (tickTimer s).script = s.script := rfl
@[simp] theorem tickTimer_draw (s : State) : (tickTimer s).draw = s.draw := rfl
@[simp] theorem tickTimer_freeIndex (s : State) : (tickTimer s).freeIndex = s.freeIndex := rfl

/-! ### `enterRunning` -/

@[simp] theorem enterRunning_running (s : State) : (enterRunning s).running = true := rfl
@[simp] theorem enterRunning_beatCount (s : State) : (enterRunning s).beatCount = 0 := rfl
@[simp] theorem enterRunning_midiLedTimer (s : State) :
    (enterRunning s).midiLedTimer = s.midiLedTimer := rfl
@[simp] theorem enterRunning_beatLedTimer (s : State) :
    (enterRunning s).beatLedTimer = Config.beatLedMs := rfl
@[simp] theorem enterRunning_clockLine (s : State) : (enterRunning s).clockLine = s.clockLine := rfl
@[simp] theorem enterRunning_intervalValid (s : State) :
    (enterRunning s).intervalValid = false := rfl
@[simp] theorem enterRunning_timer (s : State) : (enterRunning s).timer = s.timer := rfl
@[simp] theorem enterRunning_cmpPending (s : State) :
    (enterRunning s).cmpPending = s.cmpPending := rfl
@[simp] theorem enterRunning_ovfPending (s : State) :
    (enterRunning s).ovfPending = s.ovfPending := rfl
@[simp] theorem enterRunning_rxPending (s : State) : (enterRunning s).rxPending = s.rxPending := rfl
@[simp] theorem enterRunning_tickFlag (s : State) : (enterRunning s).tickFlag = s.tickFlag := rfl
@[simp] theorem enterRunning_switchRaw (s : State) : (enterRunning s).switchRaw = s.switchRaw := rfl
@[simp] theorem enterRunning_debounce (s : State) : (enterRunning s).debounce = s.debounce := rfl
@[simp] theorem enterRunning_faults (s : State) : (enterRunning s).faults = s.faults := rfl
@[simp] theorem enterRunning_nowUs (s : State) : (enterRunning s).nowUs = s.nowUs := rfl
@[simp] theorem enterRunning_trace (s : State) :
    (enterRunning s).trace = s.trace ++ edgesOf s.nowUs .runLine s.running true := rfl
@[simp] theorem enterRunning_cursor (s : State) : (enterRunning s).cursor = s.cursor := rfl
@[simp] theorem enterRunning_script (s : State) : (enterRunning s).script = s.script := rfl
@[simp] theorem enterRunning_draw (s : State) : (enterRunning s).draw = s.draw := rfl
@[simp] theorem enterRunning_freeIndex (s : State) : (enterRunning s).freeIndex = s.freeIndex := rfl

/-! ### `enterStopped` -/

@[simp] theorem enterStopped_running (s : State) : (enterStopped s).running = false := rfl
@[simp] theorem enterStopped_beatCount (s : State) : (enterStopped s).beatCount = s.beatCount := rfl
@[simp] theorem enterStopped_midiLedTimer (s : State) :
    (enterStopped s).midiLedTimer = s.midiLedTimer := rfl
@[simp] theorem enterStopped_beatLedTimer (s : State) :
    (enterStopped s).beatLedTimer = s.beatLedTimer := rfl
@[simp] theorem enterStopped_clockLine (s : State) : (enterStopped s).clockLine = s.clockLine := rfl
@[simp] theorem enterStopped_intervalValid (s : State) :
    (enterStopped s).intervalValid = false := rfl
@[simp] theorem enterStopped_timer (s : State) : (enterStopped s).timer = s.timer := rfl
@[simp] theorem enterStopped_cmpPending (s : State) :
    (enterStopped s).cmpPending = s.cmpPending := rfl
@[simp] theorem enterStopped_ovfPending (s : State) :
    (enterStopped s).ovfPending = s.ovfPending := rfl
@[simp] theorem enterStopped_rxPending (s : State) : (enterStopped s).rxPending = s.rxPending := rfl
@[simp] theorem enterStopped_tickFlag (s : State) : (enterStopped s).tickFlag = s.tickFlag := rfl
@[simp] theorem enterStopped_switchRaw (s : State) : (enterStopped s).switchRaw = s.switchRaw := rfl
@[simp] theorem enterStopped_debounce (s : State) : (enterStopped s).debounce = s.debounce := rfl
@[simp] theorem enterStopped_faults (s : State) : (enterStopped s).faults = s.faults := rfl
@[simp] theorem enterStopped_nowUs (s : State) : (enterStopped s).nowUs = s.nowUs := rfl
@[simp] theorem enterStopped_trace (s : State) :
    (enterStopped s).trace = s.trace ++ edgesOf s.nowUs .runLine s.running false := rfl
@[simp] theorem enterStopped_cursor (s : State) : (enterStopped s).cursor = s.cursor := rfl
@[simp] theorem enterStopped_script (s : State) : (enterStopped s).script = s.script := rfl
@[simp] theorem enterStopped_draw (s : State) : (enterStopped s).draw = s.draw := rfl
@[simp] theorem enterStopped_freeIndex (s : State) : (enterStopped s).freeIndex = s.freeIndex := rfl

/-! ### `setDebounce` -/

@[simp] theorem setDebounce_running (d : Debounce) (s : State) :
    (setDebounce d s).running = s.running := rfl
@[simp] theorem setDebounce_beatCount (d : Debounce) (s : State) :
    (setDebounce d s).beatCount = s.beatCount := rfl
@[simp] theorem setDebounce_midiLedTimer (d : Debounce) (s : State) :
    (setDebounce d s).midiLedTimer = s.midiLedTimer := rfl
@[simp] theorem setDebounce_beatLedTimer (d : Debounce) (s : State) :
    (setDebounce d s).beatLedTimer = s.beatLedTimer := rfl
@[simp] theorem setDebounce_clockLine (d : Debounce) (s : State) :
    (setDebounce d s).clockLine = s.clockLine := rfl
@[simp] theorem setDebounce_intervalValid (d : Debounce) (s : State) :
    (setDebounce d s).intervalValid = s.intervalValid := rfl
@[simp] theorem setDebounce_timer (d : Debounce) (s : State) :
    (setDebounce d s).timer = s.timer := rfl
@[simp] theorem setDebounce_cmpPending (d : Debounce) (s : State) :
    (setDebounce d s).cmpPending = s.cmpPending := rfl
@[simp] theorem setDebounce_ovfPending (d : Debounce) (s : State) :
    (setDebounce d s).ovfPending = s.ovfPending := rfl
@[simp] theorem setDebounce_rxPending (d : Debounce) (s : State) :
    (setDebounce d s).rxPending = s.rxPending := rfl
@[simp] theorem setDebounce_tickFlag (d : Debounce) (s : State) :
    (setDebounce d s).tickFlag = s.tickFlag := rfl
@[simp] theorem setDebounce_switchRaw (d : Debounce) (s : State) :
    (setDebounce d s).switchRaw = s.switchRaw := rfl
@[simp] theorem setDebounce_debounce (d : Debounce) (s : State) :
    (setDebounce d s).debounce = d := rfl
@[simp] theorem setDebounce_faults (d : Debounce) (s : State) :
    (setDebounce d s).faults = s.faults := rfl
@[simp] theorem setDebounce_nowUs (d : Debounce) (s : State) :
    (setDebounce d s).nowUs = s.nowUs := rfl
@[simp] theorem setDebounce_trace (d : Debounce) (s : State) :
    (setDebounce d s).trace = s.trace := rfl
@[simp] theorem setDebounce_cursor (d : Debounce) (s : State) :
    (setDebounce d s).cursor = s.cursor := rfl
@[simp] theorem setDebounce_script (d : Debounce) (s : State) :
    (setDebounce d s).script = s.script := rfl
@[simp] theorem setDebounce_draw (d : Debounce) (s : State) : (setDebounce d s).draw = s.draw := rfl
@[simp] theorem setDebounce_freeIndex (d : Debounce) (s : State) :
    (setDebounce d s).freeIndex = s.freeIndex := rfl

/-! ### `ledStep` -/

@[simp] theorem ledStep_running (s : State) : (ledStep s).running = s.running := rfl
@[simp] theorem ledStep_beatCount (s : State) : (ledStep s).beatCount = s.beatCount := rfl
@[simp] theorem ledStep_midiLedTimer (s : State) :
    (ledStep s).midiLedTimer = countDown s.midiLedTimer := rfl
@[simp] theorem ledStep_beatLedTimer (s : State) :
    (ledStep s).beatLedTimer = countDown s.beatLedTimer := rfl
@[simp] theorem ledStep_clockLine (s : State) : (ledStep s).clockLine = s.clockLine := rfl
@[simp] theorem ledStep_intervalValid (s : State) :
    (ledStep s).intervalValid = s.intervalValid := rfl
@[simp] theorem ledStep_timer (s : State) : (ledStep s).timer = s.timer := rfl
@[simp] theorem ledStep_cmpPending (s : State) : (ledStep s).cmpPending = s.cmpPending := rfl
@[simp] theorem ledStep_ovfPending (s : State) : (ledStep s).ovfPending = s.ovfPending := rfl
@[simp] theorem ledStep_rxPending (s : State) : (ledStep s).rxPending = s.rxPending := rfl
@[simp] theorem ledStep_tickFlag (s : State) : (ledStep s).tickFlag = s.tickFlag := rfl
@[simp] theorem ledStep_switchRaw (s : State) : (ledStep s).switchRaw = s.switchRaw := rfl
@[simp] theorem ledStep_debounce (s : State) : (ledStep s).debounce = s.debounce := rfl
@[simp] theorem ledStep_faults (s : State) : (ledStep s).faults = s.faults := rfl
@[simp] theorem ledStep_nowUs (s : State) : (ledStep s).nowUs = s.nowUs := rfl
@[simp] theorem ledStep_trace (s : State) : (ledStep s).trace = s.trace := rfl
@[simp] theorem ledStep_cursor (s : State) : (ledStep s).cursor = s.cursor := rfl
@[simp] theorem ledStep_script (s : State) : (ledStep s).script = s.script := rfl
@[simp] theorem ledStep_draw (s : State) : (ledStep s).draw = s.draw := rfl
@[simp] theorem ledStep_freeIndex (s : State) : (ledStep s).freeIndex = s.freeIndex := rfl

/-! ### `setTickFlag` -/

@[simp] theorem setTickFlag_running (b : Bool) (s : State) :
    (setTickFlag b s).running = s.running := rfl
@[simp] theorem setTickFlag_beatCount (b : Bool) (s : State) :
    (setTickFlag b s).beatCount = s.beatCount := rfl
@[simp] theorem setTickFlag_midiLedTimer (b : Bool) (s : State) :
    (setTickFlag b s).midiLedTimer = s.midiLedTimer := rfl
@[simp] theorem setTickFlag_beatLedTimer (b : Bool) (s : State) :
    (setTickFlag b s).beatLedTimer = s.beatLedTimer := rfl
@[simp] theorem setTickFlag_clockLine (b : Bool) (s : State) :
    (setTickFlag b s).clockLine = s.clockLine := rfl
@[simp] theorem setTickFlag_intervalValid (b : Bool) (s : State) :
    (setTickFlag b s).intervalValid = s.intervalValid := rfl
@[simp] theorem setTickFlag_timer (b : Bool) (s : State) : (setTickFlag b s).timer = s.timer := rfl
@[simp] theorem setTickFlag_cmpPending (b : Bool) (s : State) :
    (setTickFlag b s).cmpPending = s.cmpPending := rfl
@[simp] theorem setTickFlag_ovfPending (b : Bool) (s : State) :
    (setTickFlag b s).ovfPending = s.ovfPending := rfl
@[simp] theorem setTickFlag_rxPending (b : Bool) (s : State) :
    (setTickFlag b s).rxPending = s.rxPending := rfl
@[simp] theorem setTickFlag_tickFlag (b : Bool) (s : State) : (setTickFlag b s).tickFlag = b := rfl
@[simp] theorem setTickFlag_switchRaw (b : Bool) (s : State) :
    (setTickFlag b s).switchRaw = s.switchRaw := rfl
@[simp] theorem setTickFlag_debounce (b : Bool) (s : State) :
    (setTickFlag b s).debounce = s.debounce := rfl
@[simp] theorem setTickFlag_faults (b : Bool) (s : State) :
    (setTickFlag b s).faults = s.faults := rfl
@[simp] theorem setTickFlag_nowUs (b : Bool) (s : State) : (setTickFlag b s).nowUs = s.nowUs := rfl
@[simp] theorem setTickFlag_trace (b : Bool) (s : State) : (setTickFlag b s).trace = s.trace := rfl
@[simp] theorem setTickFlag_cursor (b : Bool) (s : State) :
    (setTickFlag b s).cursor = s.cursor := rfl
@[simp] theorem setTickFlag_script (b : Bool) (s : State) :
    (setTickFlag b s).script = s.script := rfl
@[simp] theorem setTickFlag_draw (b : Bool) (s : State) : (setTickFlag b s).draw = s.draw := rfl
@[simp] theorem setTickFlag_freeIndex (b : Bool) (s : State) :
    (setTickFlag b s).freeIndex = s.freeIndex := rfl

/-! ### `raiseRxOverrun` -/

@[simp] theorem raiseRxOverrun_running (s : State) : (raiseRxOverrun s).running = s.running := rfl
@[simp] theorem raiseRxOverrun_beatCount (s : State) :
    (raiseRxOverrun s).beatCount = s.beatCount := rfl
@[simp] theorem raiseRxOverrun_midiLedTimer (s : State) :
    (raiseRxOverrun s).midiLedTimer = s.midiLedTimer := rfl
@[simp] theorem raiseRxOverrun_beatLedTimer (s : State) :
    (raiseRxOverrun s).beatLedTimer = s.beatLedTimer := rfl
@[simp] theorem raiseRxOverrun_clockLine (s : State) :
    (raiseRxOverrun s).clockLine = s.clockLine := rfl
@[simp] theorem raiseRxOverrun_intervalValid (s : State) :
    (raiseRxOverrun s).intervalValid = s.intervalValid := rfl
@[simp] theorem raiseRxOverrun_timer (s : State) : (raiseRxOverrun s).timer = s.timer := rfl
@[simp] theorem raiseRxOverrun_cmpPending (s : State) :
    (raiseRxOverrun s).cmpPending = s.cmpPending := rfl
@[simp] theorem raiseRxOverrun_ovfPending (s : State) :
    (raiseRxOverrun s).ovfPending = s.ovfPending := rfl
@[simp] theorem raiseRxOverrun_rxPending (s : State) :
    (raiseRxOverrun s).rxPending = s.rxPending := rfl
@[simp] theorem raiseRxOverrun_tickFlag (s : State) :
    (raiseRxOverrun s).tickFlag = s.tickFlag := rfl
@[simp] theorem raiseRxOverrun_switchRaw (s : State) :
    (raiseRxOverrun s).switchRaw = s.switchRaw := rfl
@[simp] theorem raiseRxOverrun_debounce (s : State) :
    (raiseRxOverrun s).debounce = s.debounce := rfl
@[simp] theorem raiseRxOverrun_faults (s : State) :
    (raiseRxOverrun s).faults = ⟨true, s.faults.tickOverrun⟩ := rfl
@[simp] theorem raiseRxOverrun_nowUs (s : State) : (raiseRxOverrun s).nowUs = s.nowUs := rfl
@[simp] theorem raiseRxOverrun_trace (s : State) : (raiseRxOverrun s).trace = s.trace := rfl
@[simp] theorem raiseRxOverrun_cursor (s : State) : (raiseRxOverrun s).cursor = s.cursor := rfl
@[simp] theorem raiseRxOverrun_script (s : State) : (raiseRxOverrun s).script = s.script := rfl
@[simp] theorem raiseRxOverrun_draw (s : State) : (raiseRxOverrun s).draw = s.draw := rfl
@[simp] theorem raiseRxOverrun_freeIndex (s : State) :
    (raiseRxOverrun s).freeIndex = s.freeIndex := rfl

/-! ### `raiseTickOverrun` -/

@[simp] theorem raiseTickOverrun_running (s : State) :
    (raiseTickOverrun s).running = s.running := rfl
@[simp] theorem raiseTickOverrun_beatCount (s : State) :
    (raiseTickOverrun s).beatCount = s.beatCount := rfl
@[simp] theorem raiseTickOverrun_midiLedTimer (s : State) :
    (raiseTickOverrun s).midiLedTimer = s.midiLedTimer := rfl
@[simp] theorem raiseTickOverrun_beatLedTimer (s : State) :
    (raiseTickOverrun s).beatLedTimer = s.beatLedTimer := rfl
@[simp] theorem raiseTickOverrun_clockLine (s : State) :
    (raiseTickOverrun s).clockLine = s.clockLine := rfl
@[simp] theorem raiseTickOverrun_intervalValid (s : State) :
    (raiseTickOverrun s).intervalValid = s.intervalValid := rfl
@[simp] theorem raiseTickOverrun_timer (s : State) : (raiseTickOverrun s).timer = s.timer := rfl
@[simp] theorem raiseTickOverrun_cmpPending (s : State) :
    (raiseTickOverrun s).cmpPending = s.cmpPending := rfl
@[simp] theorem raiseTickOverrun_ovfPending (s : State) :
    (raiseTickOverrun s).ovfPending = s.ovfPending := rfl
@[simp] theorem raiseTickOverrun_rxPending (s : State) :
    (raiseTickOverrun s).rxPending = s.rxPending := rfl
@[simp] theorem raiseTickOverrun_tickFlag (s : State) :
    (raiseTickOverrun s).tickFlag = s.tickFlag := rfl
@[simp] theorem raiseTickOverrun_switchRaw (s : State) :
    (raiseTickOverrun s).switchRaw = s.switchRaw := rfl
@[simp] theorem raiseTickOverrun_debounce (s : State) :
    (raiseTickOverrun s).debounce = s.debounce := rfl
@[simp] theorem raiseTickOverrun_faults (s : State) :
    (raiseTickOverrun s).faults = ⟨s.faults.rxOverrun, true⟩ := rfl
@[simp] theorem raiseTickOverrun_nowUs (s : State) : (raiseTickOverrun s).nowUs = s.nowUs := rfl
@[simp] theorem raiseTickOverrun_trace (s : State) : (raiseTickOverrun s).trace = s.trace := rfl
@[simp] theorem raiseTickOverrun_cursor (s : State) : (raiseTickOverrun s).cursor = s.cursor := rfl
@[simp] theorem raiseTickOverrun_script (s : State) : (raiseTickOverrun s).script = s.script := rfl
@[simp] theorem raiseTickOverrun_draw (s : State) : (raiseTickOverrun s).draw = s.draw := rfl
@[simp] theorem raiseTickOverrun_freeIndex (s : State) :
    (raiseTickOverrun s).freeIndex = s.freeIndex := rfl

/-! ### `holdByte` -/

@[simp] theorem holdByte_running (b : Byte) (s : State) : (holdByte b s).running = s.running := rfl
@[simp] theorem holdByte_beatCount (b : Byte) (s : State) :
    (holdByte b s).beatCount = s.beatCount := rfl
@[simp] theorem holdByte_midiLedTimer (b : Byte) (s : State) :
    (holdByte b s).midiLedTimer = s.midiLedTimer := rfl
@[simp] theorem holdByte_beatLedTimer (b : Byte) (s : State) :
    (holdByte b s).beatLedTimer = s.beatLedTimer := rfl
@[simp] theorem holdByte_clockLine (b : Byte) (s : State) :
    (holdByte b s).clockLine = s.clockLine := rfl
@[simp] theorem holdByte_intervalValid (b : Byte) (s : State) :
    (holdByte b s).intervalValid = s.intervalValid := rfl
@[simp] theorem holdByte_timer (b : Byte) (s : State) : (holdByte b s).timer = s.timer := rfl
@[simp] theorem holdByte_cmpPending (b : Byte) (s : State) :
    (holdByte b s).cmpPending = s.cmpPending := rfl
@[simp] theorem holdByte_ovfPending (b : Byte) (s : State) :
    (holdByte b s).ovfPending = s.ovfPending := rfl
@[simp] theorem holdByte_rxPending (b : Byte) (s : State) : (holdByte b s).rxPending = some b := rfl
@[simp] theorem holdByte_tickFlag (b : Byte) (s : State) :
    (holdByte b s).tickFlag = s.tickFlag := rfl
@[simp] theorem holdByte_switchRaw (b : Byte) (s : State) :
    (holdByte b s).switchRaw = s.switchRaw := rfl
@[simp] theorem holdByte_debounce (b : Byte) (s : State) :
    (holdByte b s).debounce = s.debounce := rfl
@[simp] theorem holdByte_faults (b : Byte) (s : State) : (holdByte b s).faults = s.faults := rfl
@[simp] theorem holdByte_nowUs (b : Byte) (s : State) : (holdByte b s).nowUs = s.nowUs := rfl
@[simp] theorem holdByte_trace (b : Byte) (s : State) : (holdByte b s).trace = s.trace := rfl
@[simp] theorem holdByte_cursor (b : Byte) (s : State) : (holdByte b s).cursor = s.cursor := rfl
@[simp] theorem holdByte_script (b : Byte) (s : State) : (holdByte b s).script = s.script := rfl
@[simp] theorem holdByte_draw (b : Byte) (s : State) : (holdByte b s).draw = s.draw := rfl
@[simp] theorem holdByte_freeIndex (b : Byte) (s : State) :
    (holdByte b s).freeIndex = s.freeIndex := rfl

/-! ### `clearCompare` -/

@[simp] theorem clearCompare_running (s : State) : (clearCompare s).running = s.running := rfl
@[simp] theorem clearCompare_beatCount (s : State) : (clearCompare s).beatCount = s.beatCount := rfl
@[simp] theorem clearCompare_midiLedTimer (s : State) :
    (clearCompare s).midiLedTimer = s.midiLedTimer := rfl
@[simp] theorem clearCompare_beatLedTimer (s : State) :
    (clearCompare s).beatLedTimer = s.beatLedTimer := rfl
@[simp] theorem clearCompare_clockLine (s : State) : (clearCompare s).clockLine = s.clockLine := rfl
@[simp] theorem clearCompare_intervalValid (s : State) :
    (clearCompare s).intervalValid = s.intervalValid := rfl
@[simp] theorem clearCompare_timer (s : State) : (clearCompare s).timer = s.timer := rfl
@[simp] theorem clearCompare_cmpPending (s : State) : (clearCompare s).cmpPending = false := rfl
@[simp] theorem clearCompare_ovfPending (s : State) :
    (clearCompare s).ovfPending = s.ovfPending := rfl
@[simp] theorem clearCompare_rxPending (s : State) : (clearCompare s).rxPending = s.rxPending := rfl
@[simp] theorem clearCompare_tickFlag (s : State) : (clearCompare s).tickFlag = s.tickFlag := rfl
@[simp] theorem clearCompare_switchRaw (s : State) : (clearCompare s).switchRaw = s.switchRaw := rfl
@[simp] theorem clearCompare_debounce (s : State) : (clearCompare s).debounce = s.debounce := rfl
@[simp] theorem clearCompare_faults (s : State) : (clearCompare s).faults = s.faults := rfl
@[simp] theorem clearCompare_nowUs (s : State) : (clearCompare s).nowUs = s.nowUs := rfl
@[simp] theorem clearCompare_trace (s : State) : (clearCompare s).trace = s.trace := rfl
@[simp] theorem clearCompare_cursor (s : State) : (clearCompare s).cursor = s.cursor := rfl
@[simp] theorem clearCompare_script (s : State) : (clearCompare s).script = s.script := rfl
@[simp] theorem clearCompare_draw (s : State) : (clearCompare s).draw = s.draw := rfl
@[simp] theorem clearCompare_freeIndex (s : State) : (clearCompare s).freeIndex = s.freeIndex := rfl

/-! ### `forgetInterval` -/

@[simp] theorem forgetInterval_running (s : State) : (forgetInterval s).running = s.running := rfl
@[simp] theorem forgetInterval_beatCount (s : State) :
    (forgetInterval s).beatCount = s.beatCount := rfl
@[simp] theorem forgetInterval_midiLedTimer (s : State) :
    (forgetInterval s).midiLedTimer = s.midiLedTimer := rfl
@[simp] theorem forgetInterval_beatLedTimer (s : State) :
    (forgetInterval s).beatLedTimer = s.beatLedTimer := rfl
@[simp] theorem forgetInterval_clockLine (s : State) :
    (forgetInterval s).clockLine = s.clockLine := rfl
@[simp] theorem forgetInterval_intervalValid (s : State) :
    (forgetInterval s).intervalValid = false := rfl
@[simp] theorem forgetInterval_timer (s : State) : (forgetInterval s).timer = s.timer := rfl
@[simp] theorem forgetInterval_cmpPending (s : State) :
    (forgetInterval s).cmpPending = s.cmpPending := rfl
@[simp] theorem forgetInterval_ovfPending (s : State) : (forgetInterval s).ovfPending = false := rfl
@[simp] theorem forgetInterval_rxPending (s : State) :
    (forgetInterval s).rxPending = s.rxPending := rfl
@[simp] theorem forgetInterval_tickFlag (s : State) :
    (forgetInterval s).tickFlag = s.tickFlag := rfl
@[simp] theorem forgetInterval_switchRaw (s : State) :
    (forgetInterval s).switchRaw = s.switchRaw := rfl
@[simp] theorem forgetInterval_debounce (s : State) :
    (forgetInterval s).debounce = s.debounce := rfl
@[simp] theorem forgetInterval_faults (s : State) : (forgetInterval s).faults = s.faults := rfl
@[simp] theorem forgetInterval_nowUs (s : State) : (forgetInterval s).nowUs = s.nowUs := rfl
@[simp] theorem forgetInterval_trace (s : State) : (forgetInterval s).trace = s.trace := rfl
@[simp] theorem forgetInterval_cursor (s : State) : (forgetInterval s).cursor = s.cursor := rfl
@[simp] theorem forgetInterval_script (s : State) : (forgetInterval s).script = s.script := rfl
@[simp] theorem forgetInterval_draw (s : State) : (forgetInterval s).draw = s.draw := rfl
@[simp] theorem forgetInterval_freeIndex (s : State) :
    (forgetInterval s).freeIndex = s.freeIndex := rfl

/-! ### `setSwitch` -/

@[simp] theorem setSwitch_running (l : Bool) (s : State) :
    (setSwitch l s).running = s.running := rfl
@[simp] theorem setSwitch_beatCount (l : Bool) (s : State) :
    (setSwitch l s).beatCount = s.beatCount := rfl
@[simp] theorem setSwitch_midiLedTimer (l : Bool) (s : State) :
    (setSwitch l s).midiLedTimer = s.midiLedTimer := rfl
@[simp] theorem setSwitch_beatLedTimer (l : Bool) (s : State) :
    (setSwitch l s).beatLedTimer = s.beatLedTimer := rfl
@[simp] theorem setSwitch_clockLine (l : Bool) (s : State) :
    (setSwitch l s).clockLine = s.clockLine := rfl
@[simp] theorem setSwitch_intervalValid (l : Bool) (s : State) :
    (setSwitch l s).intervalValid = s.intervalValid := rfl
@[simp] theorem setSwitch_timer (l : Bool) (s : State) : (setSwitch l s).timer = s.timer := rfl
@[simp] theorem setSwitch_cmpPending (l : Bool) (s : State) :
    (setSwitch l s).cmpPending = s.cmpPending := rfl
@[simp] theorem setSwitch_ovfPending (l : Bool) (s : State) :
    (setSwitch l s).ovfPending = s.ovfPending := rfl
@[simp] theorem setSwitch_rxPending (l : Bool) (s : State) :
    (setSwitch l s).rxPending = s.rxPending := rfl
@[simp] theorem setSwitch_tickFlag (l : Bool) (s : State) :
    (setSwitch l s).tickFlag = s.tickFlag := rfl
@[simp] theorem setSwitch_switchRaw (l : Bool) (s : State) : (setSwitch l s).switchRaw = l := rfl
@[simp] theorem setSwitch_debounce (l : Bool) (s : State) :
    (setSwitch l s).debounce = s.debounce := rfl
@[simp] theorem setSwitch_faults (l : Bool) (s : State) : (setSwitch l s).faults = s.faults := rfl
@[simp] theorem setSwitch_nowUs (l : Bool) (s : State) : (setSwitch l s).nowUs = s.nowUs := rfl
@[simp] theorem setSwitch_trace (l : Bool) (s : State) : (setSwitch l s).trace = s.trace := rfl
@[simp] theorem setSwitch_cursor (l : Bool) (s : State) : (setSwitch l s).cursor = s.cursor := rfl
@[simp] theorem setSwitch_script (l : Bool) (s : State) : (setSwitch l s).script = s.script := rfl
@[simp] theorem setSwitch_draw (l : Bool) (s : State) : (setSwitch l s).draw = s.draw := rfl
@[simp] theorem setSwitch_freeIndex (l : Bool) (s : State) :
    (setSwitch l s).freeIndex = s.freeIndex := rfl

/-! ### `resetMachine` -/

@[simp] theorem resetMachine_running (l0 : Bool) (s : State) :
    (resetMachine l0 s).running = false := rfl
@[simp] theorem resetMachine_beatCount (l0 : Bool) (s : State) :
    (resetMachine l0 s).beatCount = 0 := rfl
@[simp] theorem resetMachine_midiLedTimer (l0 : Bool) (s : State) :
    (resetMachine l0 s).midiLedTimer = 0#8 := rfl
@[simp] theorem resetMachine_beatLedTimer (l0 : Bool) (s : State) :
    (resetMachine l0 s).beatLedTimer = 0#8 := rfl
@[simp] theorem resetMachine_clockLine (l0 : Bool) (s : State) :
    (resetMachine l0 s).clockLine = false := rfl
@[simp] theorem resetMachine_intervalValid (l0 : Bool) (s : State) :
    (resetMachine l0 s).intervalValid = false := rfl
@[simp] theorem resetMachine_timer (l0 : Bool) (s : State) :
    (resetMachine l0 s).timer = PulseTimer.atReset Config.timerWidth := rfl
@[simp] theorem resetMachine_cmpPending (l0 : Bool) (s : State) :
    (resetMachine l0 s).cmpPending = false := rfl
@[simp] theorem resetMachine_ovfPending (l0 : Bool) (s : State) :
    (resetMachine l0 s).ovfPending = false := rfl
@[simp] theorem resetMachine_rxPending (l0 : Bool) (s : State) :
    (resetMachine l0 s).rxPending = none := rfl
@[simp] theorem resetMachine_tickFlag (l0 : Bool) (s : State) :
    (resetMachine l0 s).tickFlag = false := rfl
@[simp] theorem resetMachine_switchRaw (l0 : Bool) (s : State) :
    (resetMachine l0 s).switchRaw = l0 := rfl
@[simp] theorem resetMachine_debounce (l0 : Bool) (s : State) :
    (resetMachine l0 s).debounce = .idle := rfl
@[simp] theorem resetMachine_faults (l0 : Bool) (s : State) :
    (resetMachine l0 s).faults = FaultBits.none := rfl
@[simp] theorem resetMachine_nowUs (l0 : Bool) (s : State) : (resetMachine l0 s).nowUs = 0 := rfl
@[simp] theorem resetMachine_trace (l0 : Bool) (s : State) : (resetMachine l0 s).trace = [] := rfl
@[simp] theorem resetMachine_cursor (l0 : Bool) (s : State) : (resetMachine l0 s).cursor = 0 := rfl
@[simp] theorem resetMachine_script (l0 : Bool) (s : State) :
    (resetMachine l0 s).script = s.script := rfl
@[simp] theorem resetMachine_draw (l0 : Bool) (s : State) : (resetMachine l0 s).draw = s.draw := rfl
@[simp] theorem resetMachine_freeIndex (l0 : Bool) (s : State) :
    (resetMachine l0 s).freeIndex = s.freeIndex := rfl

/-! ### `beginStep` -/

@[simp] theorem beginStep_running (l : Line) (s : State) :
    (beginStep l s).running = s.running := rfl
@[simp] theorem beginStep_beatCount (l : Line) (s : State) :
    (beginStep l s).beatCount = s.beatCount := rfl
@[simp] theorem beginStep_midiLedTimer (l : Line) (s : State) :
    (beginStep l s).midiLedTimer = s.midiLedTimer := rfl
@[simp] theorem beginStep_beatLedTimer (l : Line) (s : State) :
    (beginStep l s).beatLedTimer = s.beatLedTimer := rfl
@[simp] theorem beginStep_clockLine (l : Line) (s : State) :
    (beginStep l s).clockLine = s.clockLine := rfl
@[simp] theorem beginStep_intervalValid (l : Line) (s : State) :
    (beginStep l s).intervalValid = s.intervalValid := rfl
@[simp] theorem beginStep_timer (l : Line) (s : State) : (beginStep l s).timer = s.timer := rfl
@[simp] theorem beginStep_cmpPending (l : Line) (s : State) :
    (beginStep l s).cmpPending = s.cmpPending := rfl
@[simp] theorem beginStep_ovfPending (l : Line) (s : State) :
    (beginStep l s).ovfPending = s.ovfPending := rfl
@[simp] theorem beginStep_rxPending (l : Line) (s : State) :
    (beginStep l s).rxPending = s.rxPending := rfl
@[simp] theorem beginStep_tickFlag (l : Line) (s : State) :
    (beginStep l s).tickFlag = s.tickFlag := rfl
@[simp] theorem beginStep_switchRaw (l : Line) (s : State) :
    (beginStep l s).switchRaw = s.switchRaw := rfl
@[simp] theorem beginStep_debounce (l : Line) (s : State) :
    (beginStep l s).debounce = s.debounce := rfl
@[simp] theorem beginStep_faults (l : Line) (s : State) : (beginStep l s).faults = s.faults := rfl
@[simp] theorem beginStep_nowUs (l : Line) (s : State) : (beginStep l s).nowUs = s.nowUs := rfl
@[simp] theorem beginStep_trace (l : Line) (s : State) : (beginStep l s).trace = s.trace := rfl
@[simp] theorem beginStep_cursor (l : Line) (s : State) : (beginStep l s).cursor = s.cursor := rfl
@[simp] theorem beginStep_script (l : Line) (s : State) : (beginStep l s).script = s.script := rfl
@[simp] theorem beginStep_draw (l : Line) (s : State) : (beginStep l s).draw = l.draws := rfl
@[simp] theorem beginStep_freeIndex (l : Line) (s : State) :
    (beginStep l s).freeIndex = s.freeIndex := rfl

/-! ### `endStep` -/

@[simp] theorem endStep_running (l : Line) (s : State) : (endStep l s).running = s.running := rfl
@[simp] theorem endStep_beatCount (l : Line) (s : State) :
    (endStep l s).beatCount = s.beatCount := rfl
@[simp] theorem endStep_midiLedTimer (l : Line) (s : State) :
    (endStep l s).midiLedTimer = s.midiLedTimer := rfl
@[simp] theorem endStep_beatLedTimer (l : Line) (s : State) :
    (endStep l s).beatLedTimer = s.beatLedTimer := rfl
@[simp] theorem endStep_clockLine (l : Line) (s : State) :
    (endStep l s).clockLine = s.clockLine := rfl
@[simp] theorem endStep_intervalValid (l : Line) (s : State) :
    (endStep l s).intervalValid = s.intervalValid := rfl
@[simp] theorem endStep_timer (l : Line) (s : State) : (endStep l s).timer = s.timer := rfl
@[simp] theorem endStep_cmpPending (l : Line) (s : State) :
    (endStep l s).cmpPending = s.cmpPending := rfl
@[simp] theorem endStep_ovfPending (l : Line) (s : State) :
    (endStep l s).ovfPending = s.ovfPending := rfl
@[simp] theorem endStep_rxPending (l : Line) (s : State) :
    (endStep l s).rxPending = s.rxPending := rfl
@[simp] theorem endStep_tickFlag (l : Line) (s : State) : (endStep l s).tickFlag = s.tickFlag := rfl
@[simp] theorem endStep_switchRaw (l : Line) (s : State) :
    (endStep l s).switchRaw = s.switchRaw := rfl
@[simp] theorem endStep_debounce (l : Line) (s : State) : (endStep l s).debounce = s.debounce := rfl
@[simp] theorem endStep_faults (l : Line) (s : State) : (endStep l s).faults = s.faults := rfl
@[simp] theorem endStep_nowUs (l : Line) (s : State) : (endStep l s).nowUs = s.nowUs := rfl
@[simp] theorem endStep_trace (l : Line) (s : State) : (endStep l s).trace = s.trace := rfl
@[simp] theorem endStep_cursor (l : Line) (s : State) :
    (endStep l s).cursor = countStimulus l.event s.cursor := rfl
@[simp] theorem endStep_script (l : Line) (s : State) : (endStep l s).script = s.script := rfl
@[simp] theorem endStep_draw (l : Line) (s : State) : (endStep l s).draw = none := rfl
@[simp] theorem endStep_freeIndex (l : Line) (s : State) :
    (endStep l s).freeIndex = s.freeIndex := rfl

/-! ### The Pulse Timer, of every width -/

@[simp] theorem PulseTimer.arm_count {W : Nat} (t : PulseTimer W) (w : BitVec W) :
    (t.arm w).count = t.count := rfl
@[simp] theorem PulseTimer.arm_running {W : Nat} (t : PulseTimer W) (w : BitVec W) :
    (t.arm w).running = t.running := rfl
@[simp] theorem PulseTimer.arm_cmp {W : Nat} (t : PulseTimer W) (w : BitVec W) : (t.arm w).cmp = w := rfl
@[simp] theorem PulseTimer.arm_armed {W : Nat} (t : PulseTimer W) (w : BitVec W) :
    (t.arm w).armed = true := rfl
@[simp] theorem PulseTimer.restart_count {W : Nat} (t : PulseTimer W) : t.restart.count = 0#W := rfl
@[simp] theorem PulseTimer.restart_running {W : Nat} (t : PulseTimer W) : t.restart.running = true := rfl
@[simp] theorem PulseTimer.restart_cmp {W : Nat} (t : PulseTimer W) : t.restart.cmp = t.cmp := rfl
@[simp] theorem PulseTimer.restart_armed {W : Nat} (t : PulseTimer W) : t.restart.armed = t.armed := rfl
@[simp] theorem PulseTimer.atReset_count (W : Nat) : (PulseTimer.atReset W).count = 0#W := rfl
@[simp] theorem PulseTimer.atReset_running (W : Nat) : (PulseTimer.atReset W).running = false := rfl
@[simp] theorem PulseTimer.atReset_cmp (W : Nat) : (PulseTimer.atReset W).cmp = 0#W := rfl
@[simp] theorem PulseTimer.atReset_armed (W : Nat) : (PulseTimer.atReset W).armed = false := rfl

end Sys2Proof.Machine
end

