-- ==== Sys2Proof/Laws/Timer.lean ====
section
/-! SUPPORT. What the Pulse Timer's operations do, for every counter width W (R7): one lemma that says all
a microsecond can do, and the timer's invariants from it. -/

namespace Sys2Proof.Machine

variable {W : Nat}

/-- The overflow point (R73). -/
@[simp] theorem lastCount_toNat (W : Nat) : (lastCount W).toNat = 2 ^ W - 1 := by
  have := Nat.two_pow_pos W
  rw [lastCount, BitVec.toNat_ofNat, Nat.mod_eq_of_lt (by omega)]

/-- The overflow point of this hardware, 65535 (R7). -/
theorem lastCount_timerWidth_toNat : (lastCount Config.timerWidth).toNat = 65535 := rfl

/-- The counter of this hardware holds 16 bits (R7). -/
theorem ticks_toNat_lt (c : Ticks) : c.toNat < 65536 := c.isLt

/-- From 14 bits on the numbers 2, 5000 and the default width's double fit. -/
theorem two_pow_width_ge (h : 14 ≤ W) : 2 ^ 14 ≤ 2 ^ W := Nat.pow_le_pow_right (by decide) h

/-- The pulse width as a number (R70). -/
theorem pulseWidth_toNat (h : 14 ≤ W) (known : Bool) (e : BitVec W) :
    (pulseWidth known e).toNat = if known = true then e.toNat / 2 else 5000 := by
  have hW := two_pow_width_ge h
  cases known
  · simp only [pulseWidth, Config.defaultWidthUs, BitVec.toNat_ofNat, Bool.false_eq_true, if_false]
    exact Nat.mod_eq_of_lt (by omega)
  · simp only [pulseWidth, BitVec.toNat_udiv, BitVec.toNat_ofNat, if_true]
    rw [Nat.mod_eq_of_lt (by omega : 2 < 2 ^ W)]

/-- No pulse is wider than the bound of R30. -/
theorem pulseWidth_le (h : 14 ≤ W) (known : Bool) (e : BitVec W) :
    (pulseWidth known e).toNat ≤ maxWidth W := by
  have := e.isLt
  rw [pulseWidth_toNat h]
  unfold maxWidth Config.defaultWidthUs
  split_ifs <;> omega

/-- The bound of R30 lies below the overflow point (R7, R43 item 5). -/
theorem maxWidth_lt (h : 14 ≤ W) : maxWidth W < 2 ^ W - 1 := by
  have hW := two_pow_width_ge h
  unfold maxWidth Config.defaultWidthUs
  omega

/-- Below its last value the counter goes up by one. -/
theorem count_succ_toNat {c : BitVec W} (h : c ≠ lastCount W) : (c + 1#W).toNat = c.toNat + 1 := by
  have hlt := c.isLt
  have hne : c.toNat ≠ 2 ^ W - 1 := fun hc => h (BitVec.eq_of_toNat_eq (by simpa using hc))
  rcases Nat.lt_or_ge 1 (2 ^ W) with h1 | h1
  · rw [BitVec.toNat_add, BitVec.toNat_ofNat, Nat.mod_eq_of_lt h1, Nat.mod_eq_of_lt (by omega)]
  · omega

/-- What a microsecond does to the Pulse Timer (R73 to R75): it is stopped, it overflows, or it counts and
fires an armed compare that the new count has reached. -/
theorem PulseTimer.tick_cases (t : PulseTimer W) :
    (t.running = false ∧ t.overflows = false ∧ t.fires = false ∧ t.tick = t) ∨
    (t.running = true ∧ t.count = lastCount W ∧ t.overflows = true ∧ t.fires = false ∧
      t.tick = { t with count := 0#W, running := false }) ∨
    (t.running = true ∧ t.count ≠ lastCount W ∧ t.overflows = false ∧
      (t.fires = true ↔ t.armed = true ∧ t.cmp.toNat ≤ t.count.toNat + 1) ∧
      (t.count + 1#W).toNat = t.count.toNat + 1 ∧
      t.tick = { t with count := t.count + 1#W, armed := t.armed && !t.fires }) := by
  cases hr : t.running
  · exact .inl ⟨rfl, by simp [overflows, hr], by simp [fires, hr], by simp [tick, overflows, hr]⟩
  · by_cases hc : t.count = lastCount W
    · refine .inr (.inl ⟨rfl, hc, ?_⟩)
      have ho : t.overflows = true := by simp [overflows, hr, hc]
      exact ⟨ho, by simp [fires, ho], by simp [tick, ho]⟩
    · refine .inr (.inr ⟨rfl, hc, ?_⟩)
      have ho : t.overflows = false := by simp [overflows, hc]
      have hn := count_succ_toNat hc
      exact ⟨ho, by simp [fires, hr, ho, BitVec.le_def, hn], hn, by simp [tick, ho, hr]⟩

end Sys2Proof.Machine
end

