-- ==== Sys2Proof/Laws/Ops.lean ====
section
/-! SUPPORT. One lemma per shared operation that says everything it can do; cite it instead of unfolding
the operation. -/

namespace Sys2Proof.Machine

@[simp] theorem edgesOf_same (time : Nat) (sig : Signal) (a : Bool) : edgesOf time sig a a = [] := by
  simp [edgesOf]

@[simp] theorem edgesOf_rise (time : Nat) (sig : Signal) :
    edgesOf time sig false true = [⟨time, sig, true⟩] := rfl

@[simp] theorem edgesOf_fall (time : Nat) (sig : Signal) :
    edgesOf time sig true false = [⟨time, sig, false⟩] := rfl

/-- Every entry that driving a line emits has the time it is driven at, that line and that level. -/
theorem mem_edgesOf {e : Edge} {time : Nat} {sig : Signal} {old new : Bool}
    (h : e ∈ edgesOf time sig old new) : e = ⟨time, sig, new⟩ ∧ old ≠ new := by
  unfold edgesOf at h
  split_ifs at h with hc <;> simp_all

/-- Every entry of a CLOCK's rising edge is the clock line's, at the time of the step. -/
theorem mem_pulseStartEdges {e : Edge} {d : Draws} {s : State} (h : e ∈ pulseStartEdges d s) :
    e.time = s.nowUs ∧ e.signal = .clockLine := by
  unfold pulseStartEdges at h
  split_ifs at h <;> simp_all
  · rcases h with rfl | rfl <;> exact ⟨rfl, rfl⟩

/-- A CLOCK completes the beat from position 23 (R71). -/
theorem completesBeat_iff (s : State) : completesBeat s = true ↔ s.beatCount.val = 23 := by
  simp [completesBeat, Config.beatClocks]

/-- The beat position after a CLOCK, as a number (R71). -/
theorem beatStep_beatCount_val (s : State) : (beatStep s).beatCount.val = (s.beatCount.val + 1) % 24 := by
  have hlt := s.beatCount.isLt
  simp only [Config.beatClocks] at hlt
  rw [beatStep_beatCount]
  by_cases h : completesBeat s = true
  · have := (completesBeat_iff s).mp h
    simp [h, this]
  · rw [if_neg h, Fin.val_add]
    rfl

/-- Ghost time is no input of the Pulse Timer (R41). -/
theorem tickTimer_advanceTime (s : State) : tickTimer (advanceTime s) = advanceTime (tickTimer s) := rfl

/-- The line being taken is no input of the Pulse Timer. -/
theorem tickTimer_beginStep (l : Line) (s : State) :
    tickTimer (beginStep l s) = beginStep l (tickTimer s) := rfl

/-- MANUAL_TOGGLE is the entry procedure of the other state (R86). -/
theorem manualToggle_cases (s : State) :
    (s.running = true ∧ manualToggle s = enterStopped s) ∨
    (s.running = false ∧ manualToggle s = enterRunning s) := by
  unfold manualToggle
  split_ifs with h <;> simp_all

/-- Frame of MANUAL_TOGGLE: only the transport, the beat and the interval (R86). -/
theorem manualToggle_frame (s : State) : ∃ r tr bc bl, manualToggle s =
    { s with running := r, trace := tr, beatCount := bc, beatLedTimer := bl, intervalValid := false } := by
  obtain ⟨-, h⟩ | ⟨-, h⟩ := manualToggle_cases s <;> rw [h] <;> exact ⟨_, _, _, _, rfl⟩

/-- What `switch_step()` does: it toggles and begins a debounce, or it only moves the debounce state
(R91 to R93). -/
theorem switchStep_cases (s : State) :
    (s.debounce = .idle ∧ s.switchRaw = true ∧
      switchStep s = setDebounce (.debouncing Config.debounceMs) (manualToggle s)) ∨
    (s.debounce = .idle ∧ s.switchRaw = false ∧ switchStep s = s) ∨
    (∃ r, s.debounce = .debouncing r ∧ switchStep s = setDebounce (debounceNext r) s) ∨
    (s.debounce = .waitingForRelease ∧ s.switchRaw = true ∧ switchStep s = s) ∨
    (s.debounce = .waitingForRelease ∧ s.switchRaw = false ∧ switchStep s = setDebounce .idle s) := by
  unfold switchStep
  cases hd : s.debounce <;> cases hs : s.switchRaw <;> simp

/-- Frame of `switch_step()`: only the debounce state and what a toggle writes (R90). -/
theorem switchStep_frame (s : State) : ∃ d r tr bc bl iv, switchStep s =
    { s with
      debounce := d, running := r, trace := tr, beatCount := bc, beatLedTimer := bl
      intervalValid := iv } := by
  obtain ⟨-, -, h⟩ | ⟨-, -, h⟩ | ⟨_, -, h⟩ | ⟨-, -, h⟩ | ⟨-, -, h⟩ := switchStep_cases s <;> rw [h]
  · obtain ⟨r, tr, bc, bl, h'⟩ := manualToggle_frame s
    rw [h']
    exact ⟨_, _, _, _, _, _, rfl⟩
  all_goals exact ⟨_, _, _, _, _, _, rfl⟩

/-- `max(t − 1, 0)` as a number (R94). -/
@[simp] theorem countDown_toNat (t : Byte) : (countDown t).toNat = t.toNat - 1 := by
  unfold countDown
  split_ifs with h
  · simp [h]
  · have : t.toNat ≠ 0 := fun hc => h (BitVec.eq_of_toNat_eq (by simpa using hc))
    have := t.isLt
    simp only [BitVec.toNat_sub, BitVec.toNat_ofNat]
    omega

/-- The debounce countdown reaches its end exactly from 0 and 1 (R92). -/
theorem debounceNext_eq (r : Byte) :
    debounceNext r = if r.toNat ≤ 1 then .waitingForRelease else .debouncing (r - 1#8) := by
  have h0 : countDown r = 0#8 ↔ r.toNat ≤ 1 := by
    rw [← BitVec.toNat_inj, countDown_toNat]
    simp only [BitVec.toNat_ofNat]
    omega
  unfold debounceNext
  by_cases h : r.toNat ≤ 1
  · rw [if_pos (h0.mpr h), if_pos h]
  · have hr : r ≠ 0#8 := by rintro rfl; simp at h
    rw [if_neg (mt h0.mp h), if_neg h, countDown, if_neg hr]

@[simp] theorem keptUnless_true (f : Bool) : keptUnless true f = false := by cases f <;> rfl
@[simp] theorem keptUnless_false (f : Bool) : keptUnless false f = f := by cases f <;> rfl
@[simp] theorem keptUnless_of_clear (d : Bool) : keptUnless d false = false := rfl

@[simp] theorem countStimulus_reset {e : Event} (h : e.isReset = true) (c : Nat) : countStimulus e c = c := by
  simp [countStimulus, h]
@[simp] theorem countStimulus_other {e : Event} (h : e.isReset = false) (c : Nat) :
    countStimulus e c = c + 1 := by
  simp [countStimulus, h]

/-- The free schedule takes a stimulus that is enabled (R103). -/
theorem freeChoice_enabled (s : State) : enabled (freeChoice s) s = true := by
  unfold freeChoice
  split_ifs with h
  · exact h
  · rfl

/-- The next line is enabled in the state left for it, and that state differs only in the script and the
count of free values. -/
theorem nextLine_spec (s : State) :
    enabled (nextLine s).1.event (nextLine s).2 = true ∧
    (nextLine s).2 = { s with script := (nextLine s).2.script, freeIndex := (nextLine s).2.freeIndex } := by
  have key : ∀ e (a : List Line) n,
      enabled e { s with script := a, freeIndex := n } = enabled e s := by
    intro e a n; cases e <;> rfl
  have free : enabled (freeChoice s) (useFree s) = true := by
    simpa [useFree] using (key _ s.script (s.freeIndex + 1)).trans (freeChoice_enabled s)
  unfold nextLine
  cases hs : s.script with
  | nil => exact ⟨free, by simp [useFree, hs]⟩
  | cons l rest =>
    by_cases h : enabled l.event s = true
    · simpa [h] using (key l.event rest s.freeIndex).trans h
    · simp only [h]
      exact ⟨free, by simp [useFree, hs]⟩

end Sys2Proof.Machine
end

