-- ==== Sys2Proof/Laws/Exec.lean ====
section
/-! SUPPORT. For each instruction, what it means that it answers a next state; then what a step can do. -/

namespace Sys2Proof.Machine

theorem exec_clock (s : State) : exec .clock s = .next (useFree (performClock (drawsOf s) s)) := rfl
theorem exec_start (s : State) : exec .start s = .next (enterRunning s) := rfl
theorem exec_cont (s : State) : exec .cont s = .next (enterRunning s) := rfl
theorem exec_stop (s : State) : exec .stop s = .next (enterStopped s) := rfl
theorem exec_ignore (b : Byte) (s : State) : exec (.ignore b) s = .next s := rfl
theorem exec_usTick (s : State) : exec .usTick s = .next (tickTimer (advanceTime s)) := rfl
theorem exec_switch (l : Bool) (s : State) : exec (.switch l) s = .next (setSwitch l s) := rfl
theorem exec_reset (l0 : Bool) (s : State) : exec (.reset l0) s = .next (resetMachine l0 s) := rfl

theorem exec_rx (b : Byte) (s : State) : exec (.rx b) s =
    match s.rxPending with
    | none => .next (holdByte b s)
    | some _ => .next (raiseRxOverrun s) := rfl

theorem exec_msTick (s : State) : exec .msTick s =
    if s.tickFlag then .next (raiseTickOverrun s) else .next (setTickFlag true s) := rfl

theorem exec_isrCmp (s : State) : exec .isrCmp s =
    if s.cmpPending then .next (dropClockLine (clearCompare s))
    else .refused .noPendingCompare := rfl

theorem exec_isrOvf (s : State) : exec .isrOvf s =
    if s.ovfPending then .next (forgetInterval s)
    else .refused .noPendingOverflow := rfl

theorem exec_housekeep (s : State) : exec .housekeep s =
    if s.tickFlag then .next (ledStep (switchStep (setTickFlag false s))) else .refused .noTick := rfl

/-- Performing a byte is executing the instruction it decodes to (R66). -/
theorem performByte_eq_exec (b : Byte) (s : State) : performByte b s = exec (instrOfByte b) s := by
  unfold performByte instrOfByte
  cases decodeByte b <;> rfl

theorem exec_isrRx (s : State) : exec .isrRx s =
    match s.rxPending with
    | none => .refused .noPendingByte
    | some b => exec (instrOfByte b) (consumeByte s) := by
  simp only [exec, execIsrRx]
  cases s.rxPending <;> simp [performByte_eq_exec]
  rfl

/-- What a serviced byte can do: CLOCK, START or CONTINUE, STOP, or nothing (R66). -/
theorem exec_instrOfByte_cases {b : Byte} {s t : State} (h : exec (instrOfByte b) s = .next t) :
    (b = 0xF8#8 ∧ t = useFree (performClock (drawsOf s) s)) ∨
    ((b = 0xFA#8 ∨ b = 0xFB#8) ∧ t = enterRunning s) ∨
    (b = 0xFC#8 ∧ t = enterStopped s) ∨
    ((b ≠ 0xF8#8 ∧ b ≠ 0xFA#8 ∧ b ≠ 0xFB#8 ∧ b ≠ 0xFC#8) ∧ t = s) := by
  obtain ⟨rfl, hd⟩ | ⟨rfl, hd⟩ | ⟨rfl, hd⟩ | ⟨rfl, hd⟩ | ⟨hb, hd⟩ := decodeByte_cases b
  all_goals simp only [instrOfByte, hd, exec_clock, exec_start, exec_cont, exec_stop, exec_ignore,
    Host.Outcome.next.injEq] at h
  · exact .inl ⟨rfl, h.symm⟩
  · exact .inr (.inl ⟨.inl rfl, h.symm⟩)
  · exact .inr (.inl ⟨.inr rfl, h.symm⟩)
  · exact .inr (.inr (.inl ⟨rfl, h.symm⟩))
  · exact .inr (.inr (.inr ⟨hb, h.symm⟩))

/-- Frame of a serviced byte: whatever it is, it leaves the receiver, the tick, the switch, the faults,
the ghost time and the model's script alone. -/
theorem exec_instrOfByte_frame {b : Byte} {s t : State} (h : exec (instrOfByte b) s = .next t) :
    t.rxPending = s.rxPending ∧ t.tickFlag = s.tickFlag ∧ t.switchRaw = s.switchRaw ∧
    t.debounce = s.debounce ∧ t.faults = s.faults ∧ t.nowUs = s.nowUs ∧ t.cursor = s.cursor ∧
    t.script = s.script ∧ t.draw = s.draw := by
  obtain ⟨-, rfl⟩ | ⟨-, rfl⟩ | ⟨-, rfl⟩ | ⟨-, rfl⟩ := exec_instrOfByte_cases h <;> simp

/-- What an instruction can do, said once: if it answers a next state, the state is this, and a service
was enabled. -/
theorem exec_next_cases {i : Instr} {s t : State} : exec i s = .next t →
    match i with
    | .clock => t = useFree (performClock (drawsOf s) s)
    | .start => t = enterRunning s
    | .cont => t = enterRunning s
    | .stop => t = enterStopped s
    | .ignore _ => t = s
    | .reset l0 => t = resetMachine l0 s
    | .rx b => (s.rxPending = none ∧ t = holdByte b s) ∨ (s.rxPending ≠ none ∧ t = raiseRxOverrun s)
    | .isrRx => ∃ b, s.rxPending = some b ∧ exec (instrOfByte b) (consumeByte s) = .next t
    | .usTick => t = tickTimer (advanceTime s)
    | .isrCmp => s.cmpPending = true ∧ t = dropClockLine (clearCompare s)
    | .isrOvf => s.ovfPending = true ∧ t = forgetInterval s
    | .msTick =>
      (s.tickFlag = false ∧ t = setTickFlag true s) ∨ (s.tickFlag = true ∧ t = raiseTickOverrun s)
    | .housekeep => s.tickFlag = true ∧ t = ledStep (switchStep (setTickFlag false s))
    | .switch l => t = setSwitch l s := by
  intro h
  cases i
  case rx =>
    rw [exec_rx] at h
    cases hb : s.rxPending <;> simp only [hb, Host.Outcome.next.injEq] at h
    · exact .inl ⟨rfl, h.symm⟩
    · exact .inr ⟨by simp, h.symm⟩
  case isrRx =>
    rw [exec_isrRx] at h
    cases hb : s.rxPending with
    | none => simp [hb] at h
    | some b => exact ⟨b, rfl, by simpa [hb] using h⟩
  case isrCmp =>
    rw [exec_isrCmp] at h
    split_ifs at h with hc
    exact ⟨hc, (Host.Outcome.next.inj h).symm⟩
  case isrOvf =>
    rw [exec_isrOvf] at h
    split_ifs at h with hc
    exact ⟨hc, (Host.Outcome.next.inj h).symm⟩
  case msTick =>
    rw [exec_msTick] at h
    split_ifs at h with hc
    · exact .inr ⟨hc, (Host.Outcome.next.inj h).symm⟩
    · exact .inl ⟨by simpa using hc, (Host.Outcome.next.inj h).symm⟩
  case housekeep =>
    rw [exec_housekeep] at h
    split_ifs at h with hc
    exact ⟨hc, (Host.Outcome.next.inj h).symm⟩
  all_goals exact (Host.Outcome.next.inj h).symm

/-- The same for the events alone, the stimuli a step takes. -/
theorem exec_event_cases {e : Event} {s t : State} : exec e.toInstr s = .next t →
    match e with
    | .reset l0 => t = resetMachine l0 s
    | .rx b => (s.rxPending = none ∧ t = holdByte b s) ∨ (s.rxPending ≠ none ∧ t = raiseRxOverrun s)
    | .isrRx => ∃ b, s.rxPending = some b ∧ exec (instrOfByte b) (consumeByte s) = .next t
    | .usTick => t = tickTimer (advanceTime s)
    | .isrCmp => s.cmpPending = true ∧ t = dropClockLine (clearCompare s)
    | .isrOvf => s.ovfPending = true ∧ t = forgetInterval s
    | .msTick =>
      (s.tickFlag = false ∧ t = setTickFlag true s) ∨ (s.tickFlag = true ∧ t = raiseTickOverrun s)
    | .housekeep => s.tickFlag = true ∧ t = ledStep (switchStep (setTickFlag false s))
    | .switch l => t = setSwitch l s := by
  intro h
  cases e <;> exact exec_next_cases h

/-- An event that is enabled answers a next state (R59). -/
theorem exec_event_of_enabled {e : Event} {s : State} (h : enabled e s = true) :
    ∃ t, exec e.toInstr s = .next t := by
  cases e <;> simp only [enabled, Event.toInstr] at h ⊢
  case reset => exact ⟨_, exec_reset _ s⟩
  case rx b => cases hb : s.rxPending <;> exact ⟨_, by rw [exec_rx, hb]⟩
  case isrRx =>
    obtain ⟨b, hb⟩ := Option.isSome_iff_exists.mp h
    rw [exec_isrRx, hb]
    dsimp only
    rw [← performByte_eq_exec]
    unfold performByte
    cases decodeByte b <;> exact ⟨_, rfl⟩
  case usTick => exact ⟨_, exec_usTick s⟩
  case isrCmp => exact ⟨_, by rw [exec_isrCmp, if_pos h]⟩
  case isrOvf => exact ⟨_, by rw [exec_isrOvf, if_pos h]⟩
  case msTick => cases hc : s.tickFlag <;> exact ⟨_, by rw [exec_msTick, hc]; rfl⟩
  case housekeep => exact ⟨_, by rw [exec_housekeep, if_pos h]⟩
  case switch => exact ⟨_, exec_switch _ s⟩

/-- A line is taken exactly as its event is executed, between the step's two ends. -/
theorem take_eq_next_iff {l : Line} {s t : State} :
    take l s = .next t ↔ ∃ u, exec l.event.toInstr (beginStep l s) = .next u ∧ t = endStep l u := by
  unfold take
  cases exec l.event.toInstr (beginStep l s) <;> simp [eq_comm]

/-- The draws of the line decide nothing about whether it is enabled. -/
@[simp] theorem enabled_beginStep (e : Event) (l : Line) (s : State) :
    enabled e (beginStep l s) = enabled e s := by
  cases e <;> rfl

@[simp] theorem takeAll_nil (s : State) : takeAll [] s = .next s := rfl

/-- A list of lines is taken as its first and then the rest. -/
theorem takeAll_cons_eq_next_iff {l : Line} {ls : List Line} {s t : State} :
    takeAll (l :: ls) s = .next t ↔ ∃ u, take l s = .next u ∧ takeAll ls u = .next t := by
  simp only [takeAll, andThen]
  cases take l s <;> simp

@[simp] theorem along_nil (p : Line → State → Prop) (s : State) : Along p [] s := trivial

/-- Along a list of lines whose first is taken: that line meets the condition, and so does the rest. -/
theorem along_cons_iff {p : Line → State → Prop} {l : Line} {ls : List Line} {s t : State}
    (h : take l s = .next t) : Along p (l :: ls) s ↔ p l s ∧ Along p ls t := by
  simp only [Along, h, Host.Outcome.next.injEq, forall_eq']

/-- A condition that the lines meet in every state holds along them. -/
theorem along_of_forall {p : Line → State → Prop} {ls : List Line} (h : ∀ l ∈ ls, ∀ s, p l s) :
    ∀ s, Along p ls s := by
  induction ls with
  | nil => exact fun _ => trivial
  | cons l ls ih =>
    exact fun s => ⟨h l List.mem_cons_self s, fun t _ => ih (fun l' hl => h l' (List.mem_cons_of_mem _ hl)) t⟩

/-- A step is the next line, taken. -/
theorem step_eq (s : State) : step s = take (nextLine s).1 (nextLine s).2 := rfl

end Sys2Proof.Machine
end

