-- ==== Sys2Proof/Laws/PerInstr.lean ====
section
/-! SUPPORT. Statements about every instruction as syntax, one lemma per constructor. -/

namespace Sys2Proof.Laws.OneByte

/-- An instruction with an encoding is exactly one byte long (30_encoding.md R56, R61). -/
def Statement (i : Instr) : Prop := ∀ bs, encode i = some bs → bs.length = 1

theorem clock : Statement .clock := by simp [Statement, encode]
theorem start : Statement .start := by simp [Statement, encode]
theorem cont : Statement .cont := by simp [Statement, encode]
theorem stop : Statement .stop := by simp [Statement, encode]
theorem ignore (b : Byte) : Statement (.ignore b) := by simp [Statement, encode]
theorem reset (l0 : Bool) : Statement (.reset l0) := by simp [Statement, encode]
theorem rx (b : Byte) : Statement (.rx b) := by simp [Statement, encode]
theorem isrRx : Statement .isrRx := by simp [Statement, encode]
theorem usTick : Statement .usTick := by simp [Statement, encode]
theorem isrCmp : Statement .isrCmp := by simp [Statement, encode]
theorem isrOvf : Statement .isrOvf := by simp [Statement, encode]
theorem msTick : Statement .msTick := by simp [Statement, encode]
theorem housekeep : Statement .housekeep := by simp [Statement, encode]
theorem switch (l : Bool) : Statement (.switch l) := by simp [Statement, encode]

end Sys2Proof.Laws.OneByte
end

