-- ==== Sys2Proof/Tests/Slice0.lean ====
section
/-! SUPPORT. Small tests, their expected results taken from 30_encoding.md R58 and 95_test_vectors.md
(V and P numbers), and a witness for the hypotheses of each statement in Certificates/Slice0. -/

open Sys2Proof Sys2Proof.Machine

namespace Sys2Proof.Tests

/-- The reset state with the switch released. -/
def base : State := State.afterReset false

/-- The draws of a line that writes none. -/
def plainDraws : Option Draws := some Draws.allFalse

/-- A field of the next state; none where there is none. -/
def after {α : Type} (f : State → α) : Host.Outcome State Fault Refusal → Option α
  | .next s => some (f s)
  | .fault _ => none
  | .refused _ => none

/-! ### Well-formedness -/

/-- The four ill-formed terms: an IGNORE that holds a message byte (R58, R60). -/
theorem test_ignore_of_a_message_is_ill_formed :
    (Instr.ignore 0xF8#8).wf = false ∧ (Instr.ignore 0xFA#8).wf = false ∧
    (Instr.ignore 0xFB#8).wf = false ∧ (Instr.ignore 0xFC#8).wf = false := by decide

/-- Their neighbours are well formed. -/
theorem test_ignore_of_another_byte_is_well_formed :
    (Instr.ignore 0xF7#8).wf = true ∧ (Instr.ignore 0xF9#8).wf = true ∧
    (Instr.ignore 0xFD#8).wf = true ∧ (Instr.ignore 0x78#8).wf = true := by decide

/-! ### Decoding: the words are written out from the table of R58 -/

theorem test_decode_clock : decodeTableWord 8 0b11111000 = some .clock := by decide
theorem test_decode_start : decodeTableWord 8 0b11111010 = some .start := by decide
theorem test_decode_continue : decodeTableWord 8 0b11111011 = some .cont := by decide
theorem test_decode_stop : decodeTableWord 8 0b11111100 = some .stop := by decide
theorem test_decode_ignore : decodeTableWord 8 0b01111000 = some (.ignore 0x78#8) := by decide

/-- The event rows have no bits (R59). -/
theorem test_decode_no_bits : decodeTableWord 0 0 = none := by decide

/-- A stream without a byte is rejected by name. -/
theorem test_decode_no_byte : decodeBytes [] = .error .noByte := rfl

/-- For every byte, `decode` is the first row of the opcode map that matches (R58, R64). -/
theorem test_decode_is_first_match :
    ∀ b : Byte, (opcodeMap.find? (fun r => r.hits b)).map (fun r => r.op) = some (decodeByte b) := by
  decide

/-- A byte within another message is decoded as itself, and the rest of the stream is left (R61, P4). -/
theorem test_decode_takes_one_byte :
    decodeBytes [0x90#8, 0x3C#8, 0xF8#8] = .ok (.ignore 0x90#8, [0x3C#8, 0xF8#8]) := rfl

/-- Words placed at the fetch after reset run: START raises the run line. -/
theorem test_placed_start_runs :
    after (fun t => t.runLine) (step (State.reset.withFetchWord 8 0xFA)) = some true := rfl

/-- A placed CLOCK raises the clock line and arms the default width. -/
theorem test_placed_clock_runs :
    after (fun t => (t.clockLine, t.timer.cmp.toNat, t.cursor)) (step (State.reset.withFetchWord 8 0xF8)) =
      some (true, 5000, 1) := rfl

/-! ### Message decoder -/

/-- V18. -/
theorem test_rx_overrun :
    after (fun t => (t.rxPending, t.faults.rxOverrun)) (exec (.rx 0xFA#8) { base with rxPending := some 0xF8#8 })
      = some (some 0xF8#8, true) := by decide

/-- V19. -/
theorem test_ignored_byte :
    after (fun t => (t.rxPending, t.midiLedTimer, t.trace))
      (exec .isrRx { base with rxPending := some 0x90#8, midiLedTimer := 2#8 }) =
      some (none, 2#8, []) := by decide

/-! ### CLOCK -/

/-- The width that CLOCK, sent as a byte, writes. -/
def widthFrom (known running : Bool) (count : Nat) : Option Nat :=
  after (fun t => t.timer.cmp.toNat) (Command.clock.perform
    { base with intervalValid := known, timer := ⟨BitVec.ofNat _ count, running, 0#_, false⟩ })

/-- V20 to V27: half the measured interval, rounded down. -/
theorem test_clock_width_measured :
    [20000, 20001, 65535, 3, 2, 1, 0, 10000].map (widthFrom true true) =
      [some 10000, some 10000, some 32767, some 1, some 1, some 0, some 0, some 5000] := by decide

/-- V28 to V30: the default. -/
theorem test_clock_width_default :
    widthFrom false true 20000 = some 5000 ∧ widthFrom true false 0 = some 5000 ∧
      widthFrom false false 0 = some 5000 := by decide

/-- V31: width 0 ends on the next tick, and ISR_CMP drops the line at that time. -/
theorem test_width_zero_ends_after_one_tick :
    after (fun t => (t.clockLine, t.timer.count.toNat, t.trace))
      (takeAll [.plain .usTick, .plain .isrCmp]
        { base with clockLine := true, timer := ⟨0#_, true, 0#_, true⟩, nowUs := 7 }) =
      some (false, 1, [⟨8, .clockLine, false⟩]) := by decide

/-- A line high with its compare still to come, 3000 microseconds into the interval, a Clock byte waiting
(V32, V33). -/
def retriggered : State :=
  { base with
    clockLine := true, timer := ⟨3000#_, true, 5000#_, true⟩
    intervalValid := true, nowUs := 3000, rxPending := some 0xF8#8 }

/-- V32: no edge, width 1500. -/
theorem test_retrigger_merges :
    after (fun t => (t.clockLine, t.timer.cmp.toNat, t.trace)) (take (.plain .isrRx) retriggered) =
      some (true, 1500, []) := by decide

/-- V33: the glitch pair. -/
theorem test_retrigger_glitches :
    after (fun t => (t.clockLine, t.timer.cmp.toNat, t.trace))
      (take ⟨.isrRx, some ⟨false, false, true⟩⟩ retriggered) =
      some (true, 1500, [⟨3000, .clockLine, false⟩, ⟨3000, .clockLine, true⟩]) := by decide

/-- The start of V34. -/
def compareRace : State :=
  { base with
    clockLine := true, timer := ⟨10000#_, true, 10000#_, false⟩
    cmpPending := true, intervalValid := true, rxPending := some 0xF8#8, nowUs := 9 }

/-- V34, first order. -/
theorem test_compare_before_clock :
    after (fun t => (t.clockLine, t.timer.cmp.toNat, t.cmpPending, t.trace))
      (takeAll [.plain .isrCmp, .plain .isrRx] compareRace) =
      some (true, 5000, false, [⟨9, .clockLine, false⟩, ⟨9, .clockLine, true⟩]) := by decide

/-- V34, second and third order. -/
theorem test_clock_before_compare :
    after (fun t => (t.clockLine, t.timer.cmp.toNat, t.cmpPending, t.trace))
      (takeAll [.plain .isrRx, .plain .isrCmp] compareRace) =
      some (false, 5000, false, [⟨9, .clockLine, false⟩]) ∧
    after (fun t => (t.clockLine, t.timer.cmp.toNat, t.cmpPending, t.trace))
      (take ⟨.isrRx, some ⟨true, false, false⟩⟩ compareRace) = some (true, 5000, false, []) := by decide

/-- V35, V36: the beat goes on, its LED alone. -/
theorem test_beat_goes_on :
    after (fun t => (t.beatCount, t.beatLedTimer)) (exec .clock { base with beatLedTimer := 5#8 }) =
      some (1, 5#8) ∧
    after (fun t => (t.beatCount, t.beatLedTimer))
      (exec .clock { base with beatCount := 22, beatLedTimer := 5#8 }) = some (23, 5#8) := by decide

/-- V37, V38: the 24th CLOCK wraps and arms the beat LED, which stays dark while Stopped. -/
theorem test_beat_wraps :
    after (fun t => (t.beatCount, t.beatLedTimer)) (exec .clock { base with beatCount := 23 }) =
      some (0, Config.beatLedMs) ∧
    after (fun t => t.running) (exec .clock { base with beatCount := 23 }) = some false := ⟨rfl, rfl⟩

/-! ### Pulse Timer -/

/-- A running timer. -/
def running (count cmp : Nat) (armed pending : Bool) : State :=
  { base with timer := ⟨BitVec.ofNat _ count, true, BitVec.ofNat _ cmp, armed⟩, cmpPending := pending }

/-- V40: a stopped timer only sees time pass. -/
theorem test_tick_of_a_stopped_timer : exec .usTick base = .next { base with nowUs := 1 } := rfl

/-- V41, V42: the last count, and the overflow after it. -/
theorem test_tick_overflow :
    after (fun t => (t.timer.count.toNat, t.timer.running, t.ovfPending))
      (exec .usTick (running 65534 0 false false)) = some (65535, true, false) ∧
    after (fun t => (t.timer.count.toNat, t.timer.running, t.ovfPending))
      (exec .usTick (running 65535 0 false false)) = some (0, false, true) := by
  decide

/-- What the compare shows after a tick. -/
def compareAfter (s : State) : Option (Nat × Bool × Bool) :=
  after (fun t => (t.timer.count.toNat, t.timer.armed, t.cmpPending)) (exec .usTick s)

/-- V43 to V46. -/
theorem test_tick_compare :
    compareAfter (running 9999 10000 true false) = some (10000, false, true) ∧
    compareAfter (running 5000 10000 true false) = some (5001, true, false) ∧
    compareAfter (running 12000 10000 false false) = some (12001, false, false) ∧
    compareAfter (running 9999 10000 true true) = some (10000, false, true) := by decide

/-- V47. -/
theorem test_isrCmp_drops_the_line :
    after (fun t => (t.clockLine, t.cmpPending, t.trace))
      (exec .isrCmp { base with clockLine := true, cmpPending := true, nowUs := 4 }) =
      some (false, false, [⟨4, .clockLine, false⟩]) := by decide

/-- V48. -/
theorem test_isrCmp_on_a_low_line : exec .isrCmp { base with cmpPending := true } = .next base := rfl

/-- V49. -/
theorem test_isrOvf :
    exec .isrOvf { base with ovfPending := true, intervalValid := true } = .next base := rfl

/-! ### Transport -/

/-- V50: START from Stopped; the beat LED's countdown is reloaded. -/
theorem test_start :
    after (fun t => (t.runLine, t.beatCount, t.beatLedTimer, t.intervalValid, t.trace))
      (exec .start { base with nowUs := 5, intervalValid := true }) =
      some (true, 0, Config.beatLedMs, false, [⟨5, .runLine, true⟩]) := rfl

/-- V51: START while Running starts again, without an edge. -/
theorem test_start_again :
    after (fun t => (t.runLine, t.beatCount, t.beatLedTimer, t.intervalValid, t.trace))
      (exec .start { base with running := true, beatCount := 11, intervalValid := true }) =
      some (true, 0, Config.beatLedMs, false, []) := rfl

/-- V52: CONTINUE starts from the beginning of the beat. -/
theorem test_continue :
    after (fun t => (t.runLine, t.beatCount, t.trace)) (exec .cont { base with beatCount := 17 }) =
      some (true, 0, [⟨0, .runLine, true⟩]) := rfl

/-- V53: STOP keeps the beat position and the countdown. -/
theorem test_stop :
    exec .stop { base with running := true, beatCount := 5, beatLedTimer := 12#8, intervalValid := true } =
      .next { base with beatCount := 5, beatLedTimer := 12#8, trace := [⟨0, .runLine, false⟩] } := rfl

/-- V54: STOP while Stopped clears the interval and emits nothing. -/
theorem test_stop_again : exec .stop { base with intervalValid := true } = .next base := rfl

/-- V57: the first CLOCK after START has the default width. -/
theorem test_clock_after_start :
    after (fun t => t.timer.cmp.toNat) (performAll [.start, .clock]
      { running 20000 0 false false with intervalValid := true }) = some 5000 := by decide

/-! ### Housekeeping -/

/-- V60, V61. -/
theorem test_msTick :
    exec .msTick base = .next { base with tickFlag := true } ∧
    exec .msTick { base with tickFlag := true } =
      .next { base with tickFlag := true, faults := ⟨false, true⟩ } := ⟨rfl, rfl⟩

/-- V62: the countdowns, floored at 0. -/
theorem test_housekeep_counts_down :
    exec .housekeep { base with tickFlag := true, midiLedTimer := 1#8 } = .next base := rfl

/-- V56, and P5's first pass: the toggle, then the countdown of what it reloaded (log entry 8). -/
theorem test_housekeep_toggles :
    after (fun t => (t.running, t.debounce, t.tickFlag, t.trace))
      (exec .housekeep { base with running := true, switchRaw := true, tickFlag := true }) =
      some (false, .debouncing Config.debounceMs, false, [⟨0, .runLine, false⟩]) ∧
    after (fun t => (t.running, t.beatLedTimer))
      (exec .housekeep { base with switchRaw := true, tickFlag := true }) =
      some (true, countDown Config.beatLedMs) := ⟨rfl, rfl⟩

/-- The switch machine's state after a pass. -/
def debounceAfter (d : Debounce) (pressed : Bool) : Option Debounce :=
  after (fun t => t.debounce) (exec .housekeep { base with tickFlag := true, debounce := d, switchRaw := pressed })

/-- V64, V65, V67, V68, V69. -/
theorem test_switch_machine :
    debounceAfter (.debouncing 2#8) false = some (.debouncing 1#8) ∧
    debounceAfter (.debouncing 1#8) true = some .waitingForRelease ∧
    debounceAfter .waitingForRelease true = some .waitingForRelease ∧
    debounceAfter .waitingForRelease false = some .idle ∧ debounceAfter .idle false = some .idle := by decide

/-- V66: the beat LED is dark while Stopped, its countdown nonzero. -/
theorem test_beat_led_is_gated :
    after (fun t => (t.beatLed, t.beatLedTimer)) (performAll [.stop, .ms]
      { base with running := true, beatLedTimer := 10#8 }) = some (false, 9#8) := by decide

theorem test_switch : exec (.switch true) base = .next { base with switchRaw := true } := rfl

/-! ### Reset and the overflow race -/

/-- V70: RESET 1, and the next pass toggles. -/
theorem test_reset :
    exec (.reset true) { base with running := true, clockLine := true, faults := ⟨true, true⟩, nowUs := 9 } =
      .next { base with switchRaw := true } := rfl

/-- V70, its second half. -/
theorem test_reset_with_the_switch_held :
    after (fun t => t.running) (performAll [.stimulus (.plain (.reset true)), .ms] base) = some true := rfl

/-- The start of V74 to V76. -/
def overflowRace : State :=
  { base with ovfPending := true, intervalValid := true, rxPending := some 0xF8#8 }

/-- What V74 to V76 give. -/
def raceAfter (ls : List Line) : Option (Nat × Bool × Bool) :=
  after (fun t => (t.timer.cmp.toNat, t.intervalValid, t.ovfPending)) (takeAll ls overflowRace)

/-- V74, V75, V76. -/
theorem test_overflow_race :
    raceAfter [.plain .isrOvf, .plain .isrRx] = some (5000, true, false) ∧
    raceAfter [⟨.isrRx, some ⟨false, true, false⟩⟩] = some (5000, true, false) ∧
    raceAfter [.plain .isrRx] = some (5000, true, true) ∧
    raceAfter [.plain .isrRx, .plain .isrOvf] = some (5000, false, false) := by decide

/-! ### Scripts -/

/-- Operands and a comment (R62). -/
theorem test_parse_script :
    parseScript ["RESET 0 ; power on".toList, "".toList, "RX 0xfA".toList, "WAIT 120".toList] =
      some [.stimulus (.plain (.reset false)), .stimulus (.plain (.rx 0xFA#8)), .waitUs 120] := by decide

/-- Draws in braces; one omitted is false (R62). -/
theorem test_parse_draws :
    parseScript ["ISR_RX ".toList ++ Char.ofNat 123 :: "glitch=1, discard_cmp=0".toList ++ [Char.ofNat 125]] =
      some [.stimulus ⟨.isrRx, some ⟨false, false, true⟩⟩] := by decide

/-- What is no line is rejected. -/
theorem test_parse_rejects : parseScript ["RX 0xG0".toList] = none ∧ parseScript ["HALT".toList] = none := by
  decide

/-- The serial bytes of P4's script are its RX operands (R62). -/
theorem test_script_bytes :
    scriptBytes (sendLines 0xF8#8 ++ .plain .usTick :: sendLines 0x90#8) = [0xF8#8, 0x90#8] := rfl

/-! ### Witnesses: states and operands that meet the hypotheses of the statements -/

/-- DecodeInvertsEncode: a message, and the ignored bytes at the ends of the range. -/
theorem witness_DecodeInvertsEncode :
    (Instr.clock.wf = true ∧ encode .clock = some [0xF8#8]) ∧
    ((Instr.ignore 0x00#8).wf = true ∧ encode (.ignore 0x00#8) = some [0x00#8]) ∧
    ((Instr.ignore 0xFF#8).wf = true ∧ encode (.ignore 0xFF#8) = some [0xFF#8]) := by decide

/-- A state about to service byte `b`. -/
def serving (b : Byte) : State := { base with rxPending := some b, script := [⟨.isrRx, plainDraws⟩] }

theorem witness_StepRunsTheDecodedByte :
    (serving 0xFA#8).script = [⟨.isrRx, plainDraws⟩] ∧ (serving 0xFA#8).rxPending = some 0xFA#8 ∧
      decodeBytes [0xFA#8] = .ok (.start, []) := ⟨rfl, rfl, rfl⟩

/-- A service and a RESET as the script's first line. -/
theorem witness_StepTakesTheNextStimulus :
    ((serving 0xF8#8).script = ⟨.isrRx, plainDraws⟩ :: [] ∧ enabled .isrRx (serving 0xF8#8) = true) ∧
    ((base.withScript [.plain (.reset true)]).script = .plain (.reset true) :: [] ∧
      enabled (.reset true) (base.withScript [.plain (.reset true)]) = true) := by decide

theorem witness_PlacedWordRunsNext :
    decodeTableWord 8 0xFC = some .stop ∧ decodeTableWord 8 0x00 = some (.ignore 0x00#8) := by decide

/-- A RESET, a US_TICK and a service are taken. -/
theorem witness_CursorCountsStimuli :
    (∃ t, take (.plain (.reset true)) base = .next t) ∧ (∃ t, take (.plain .usTick) base = .next t) ∧
    (∃ t, take (.plain .isrRx) (serving 0x90#8) = .next t) := ⟨⟨_, rfl⟩, ⟨_, rfl⟩, ⟨_, rfl⟩⟩

/-- The same three. -/
theorem witness_TimeIsCountedByUsTick :
    (∃ t, take (.plain (.reset true)) base = .next t) ∧ (∃ t, take (.plain .usTick) base = .next t) ∧
    (∃ t, take (.plain .isrRx) (serving 0x90#8) = .next t) := witness_CursorCountsStimuli

theorem witness_RxHoldsTheByteOrRecordsTheOverrun :
    base.rxPending = none ∧ (serving 0xF8#8).rxPending = some 0xF8#8 := by decide

theorem witness_IsrRxPerformsTheDecodedByte :
    base.rxPending = none ∧ (serving 0xFB#8).rxPending = some 0xFB#8 := by decide

/-- The ignored bytes that border on the four messages. -/
theorem witness_IgnoredByteChangesNothing :
    ∀ b ∈ [0xF7#8, 0xF9#8, 0xFD#8, 0x00#8, 0xFF#8], (serving b).rxPending = some b ∧
      b ≠ 0xF8#8 ∧ b ≠ 0xFA#8 ∧ b ≠ 0xFB#8 ∧ b ≠ 0xFC#8 := by decide

/-- A script line that fixes the draws, and one that leaves them free. -/
theorem witness_ClockPerformsItsSixSteps :
    ({ base with draw := plainDraws } : State).draw = some Draws.allFalse ∧ base.draw = none := by decide

/-- Both values of the condition on the transport. -/
theorem witness_ClockIsNotGatedByTheTransport :
    base.running = false ∧ (enterRunning base).running = true := by decide

/-- The last CLOCK before the beat is complete, and the one that completes it. -/
theorem witness_BeatGoesRoundIn24Clocks :
    ({ base with beatCount := 23 } : State).beatCount.val + 0 < 24 ∧
      ({ base with beatCount := 23 } : State).beatCount.val + 1 = 24 ∧ base.beatCount.val + 24 = 24 := by
  decide

/-- A stopped timer, the counter's last value, the value before it, and a compare met and not met. -/
theorem witness_UsTickRunsThePulseTimer :
    base.timer.running = false ∧
    ((running 65535 0 false false).timer.running = true ∧ (running 65535 0 false false).timer.count.toNat = 65535) ∧
    ((running 65534 0 false false).timer.running = true ∧ (running 65534 0 false false).timer.count.toNat < 65535) ∧
    ((running 9999 10000 true false).timer.armed = true ∧
      (running 9999 10000 true false).timer.cmp.toNat ≤ (running 9999 10000 true false).timer.count.toNat + 1) ∧
    ¬ (running 9998 10000 true false).timer.cmp.toNat ≤ (running 9998 10000 true false).timer.count.toNat + 1 := by
  decide

theorem witness_OverflowMeetsNoArmedCompare :
    StateInv (running 65535 5000 false false) ∧
    ∃ t, exec .usTick (running 65535 5000 false false) = .next t ∧
      (running 65535 5000 false false).timer.running = true ∧ t.timer.running = false :=
  ⟨⟨⟨by decide, by decide, by decide⟩, by decide, by decide⟩, _, rfl, rfl, rfl⟩

theorem witness_IsrCmpEndsThePulse :
    base.cmpPending = false ∧ compareRace.cmpPending = true := by decide

theorem witness_IsrOvfForgetsTheInterval :
    base.ovfPending = false ∧ overflowRace.ovfPending = true := by decide

/-- `n` microseconds. -/
abbrev microseconds (n : Nat) : List Line := List.replicate n (.plain .usTick)

/-- Any number of microseconds can pass. -/
theorem ticks_taken (n : Nat) : ∀ s, ∃ t, takeAll (microseconds n) s = .next t := by
  induction n with
  | zero => exact fun s => ⟨s, rfl⟩
  | succ n ih =>
    intro s
    obtain ⟨t, ht⟩ := ih (endStep (.plain .usTick) (tickTimer (advanceTime (beginStep (.plain .usTick) s))))
    exact ⟨t, takeAll_cons_eq_next_iff.mpr ⟨_, rfl, ht⟩⟩

theorem ticksIn_replicate (n : Nat) : ticksIn (microseconds n) = n := by
  simp [ticksIn, Line.plain, List.countP_replicate]

theorem eq_usTick_of_mem {n : Nat} {l : Line} (h : l ∈ microseconds n) :
    l.event = .usTick := by
  rw [List.eq_of_mem_replicate h, Line.plain]

/-- The last microsecond before the overflow, and the overflow. -/
theorem witness_CounterMeasuresElapsedTime :
    ∀ n ∈ [65535, 65536], (running 0 0 false false).timer.running = true ∧
      (running 0 0 false false).timer.count.toNat = 0 ∧
      Along (fun l u => noClock l u ∧ l.event.isReset = false) (microseconds n) (running 0 0 false false) ∧
      (∃ t, takeAll (microseconds n) (running 0 0 false false) = .next t) ∧
      ticksIn (microseconds n) = n :=
  fun n _ => ⟨rfl, rfl,
    along_of_forall (fun _ h _ => by simp [noClock, eq_usTick_of_mem h, Event.isReset]) _,
    ticks_taken n _, ticksIn_replicate n⟩

/-- The interval before the overflow and at it. -/
theorem witness_NextPulseIsHalfTheInterval :
    ∀ n ∈ [65535, 65536], ∃ s t u, exec .clock base = .next s ∧ Along staysInInterval (microseconds n) s ∧
      takeAll (microseconds n) s = .next t ∧ exec .clock t = .next u ∧ ticksIn (microseconds n) = n := by
  intro n _
  obtain ⟨t, ht⟩ := ticks_taken n (useFree (performClock (drawsOf base) base))
  exact ⟨_, t, _, exec_clock base,
    along_of_forall (fun _ h _ => by simp [staysInInterval, eq_usTick_of_mem h, Event.isReset]) _, ht,
    exec_clock t, ticksIn_replicate n⟩

/-- An interval with an ignored byte and a housekeeping pass in it. -/
def busyInterval : List Line :=
  [.plain (.rx 0x90#8), .plain .isrRx, .plain .usTick, .plain .msTick, .plain .housekeep]

/-- The busy interval, and one in which an overflow kept by the first CLOCK is serviced. -/
theorem witness_NextPulseIsHalfTheInterval_busy :
    (∃ s t u, exec .clock base = .next s ∧ Along staysInInterval busyInterval s ∧
      takeAll busyInterval s = .next t ∧ exec .clock t = .next u) ∧
    (∃ s t u, exec .clock { overflowRace with draw := plainDraws } = .next s ∧ s.ovfPending = true ∧
      Along staysInInterval [.plain .isrOvf] s ∧ takeAll [.plain .isrOvf] s = .next t ∧
      exec .clock t = .next u) := by
  refine ⟨⟨_, _, _, rfl, ?_, rfl, rfl⟩, ⟨_, _, _, rfl, rfl, ?_, rfl, rfl⟩⟩
  · refine (along_cons_iff rfl).mpr ⟨⟨rfl, nofun, nofun⟩, (along_cons_iff rfl).mpr ⟨⟨rfl, ?_, nofun⟩,
      (along_cons_iff rfl).mpr ⟨⟨rfl, nofun, nofun⟩, (along_cons_iff rfl).mpr ⟨⟨rfl, nofun, nofun⟩,
      (along_cons_iff rfl).mpr ⟨⟨rfl, nofun, fun _ h => nomatch h.2⟩, trivial⟩⟩⟩⟩⟩
    exact fun _ b hb => by cases hb; rfl
  · exact (along_cons_iff rfl).mpr ⟨⟨rfl, nofun, nofun⟩, trivial⟩

/-- A pass that toggles, and a microsecond. -/
def togglingPass : List Line := [.plain (.switch true), .plain .msTick, .plain .housekeep, .plain .usTick]

theorem toggling_pass_services_no_byte : ∀ l ∈ togglingPass, l.event ≠ .isrRx := by decide

/-- After each of the three a STOP and a START byte, and the pass. -/
def busyTransport : List Line := sendLines 0xFC#8 ++ (sendLines 0xFA#8 ++ togglingPass)

theorem witness_FirstClockAfterTransportIsDefault :
    ∀ i ∈ [Instr.start, .cont, .stop], ∃ s t u, exec i base = .next s ∧ Along noClock busyTransport s ∧
      takeAll busyTransport s = .next t ∧ exec .clock t = .next u := by
  intro i hi
  simp only [List.mem_cons, List.not_mem_nil, or_false] at hi
  obtain rfl | rfl | rfl := hi <;> refine ⟨_, _, _, rfl, ?_, rfl, rfl⟩ <;>
    exact (along_cons_iff rfl).mpr ⟨nofun, (along_cons_iff rfl).mpr ⟨fun _ => by decide,
      (along_cons_iff rfl).mpr ⟨nofun, (along_cons_iff rfl).mpr ⟨fun _ => by decide,
      along_of_forall (fun l h _ he => absurd he (toggling_pass_services_no_byte l h)) _⟩⟩⟩⟩

/-- A CLOCK with no compare left pending: from reset, and a retriggering one. -/
theorem witness_PulseLastsItsWidth :
    (∃ s, exec .clock base = .next s ∧ s.cmpPending = false) ∧
    (∃ s, exec .clock retriggered = .next s ∧ s.cmpPending = false) := ⟨⟨_, rfl, rfl⟩, ⟨_, rfl, rfl⟩⟩

/-- A CLOCK, which leaves the timer running, and a START, which does not. -/
theorem witness_StoppedTimerValuesAreNeverRead :
    base.timer.running = false ∧ (∃ t, exec .clock base = .next t ∧ t.timer.running = true) ∧
    (∃ t, exec .start base = .next t ∧ t.timer.running = false) := ⟨rfl, ⟨_, rfl, rfl⟩, ⟨_, rfl, rfl⟩⟩

theorem witness_CompareRaceHasThreeOutcomes :
    compareRace.clockLine = true ∧ compareRace.cmpPending = true ∧
      compareRace.rxPending = some 0xF8#8 := by decide

theorem witness_OverflowRaceHasThreeOutcomes :
    overflowRace.timer.running = false ∧ overflowRace.ovfPending = true ∧
      overflowRace.rxPending = some 0xF8#8 := by decide

theorem witness_StartAndContinueEnterRunning :
    (Instr.start = .start ∨ Instr.start = .cont) ∧ (Instr.cont = .start ∨ Instr.cont = .cont) := by decide

/-- A pass that toggles. -/
def toggling : State := { base with switchRaw := true, tickFlag := true }

/-- A change of the run line by each kind of stimulus that may change it. -/
theorem witness_OnlyTransportStimuliChangeRunning :
    (∃ t, exec .start base = .next t ∧ t.running ≠ base.running) ∧
    (∃ t, exec .stop (enterRunning base) = .next t ∧ t.running ≠ (enterRunning base).running) ∧
    (∃ t, exec .isrRx (serving 0xFB#8) = .next t ∧ t.running ≠ (serving 0xFB#8).running) ∧
    (∃ t, exec (.reset true) (enterRunning base) = .next t ∧ t.running ≠ (enterRunning base).running) ∧
    (∃ t, exec .housekeep toggling = .next t ∧ t.running ≠ toggling.running) :=
  ⟨⟨_, rfl, by decide⟩, ⟨_, rfl, by decide⟩, ⟨_, rfl, by decide⟩, ⟨_, rfl, by decide⟩,
    ⟨_, rfl, by decide⟩⟩

/-- An ignored byte, serviced. -/
theorem witness_OnlyClockAndTickWriteTheTimer :
    (∃ t, exec .isrRx (serving 0xF9#8) = .next t) ∧ (∀ l0, Instr.isrRx ≠ .reset l0) ∧
      ¬ (Instr.isrRx = .isrRx ∧ (serving 0xF9#8).rxPending = some 0xF8#8) :=
  ⟨⟨_, rfl⟩, by simp, by decide⟩

theorem witness_OnlyClockAndIsrCmpDriveTheClockLine :
    (∃ t, exec .clock base = .next t ∧ t.clockLine ≠ base.clockLine) ∧
    (∃ t, exec .isrCmp compareRace = .next t ∧ t.clockLine ≠ compareRace.clockLine) ∧
    (∃ t, exec (.reset false) compareRace = .next t ∧ t.clockLine ≠ compareRace.clockLine) :=
  ⟨⟨_, rfl, by decide⟩, ⟨_, rfl, by decide⟩, ⟨_, rfl, by decide⟩⟩

/-- A fault kept, each fault added, and a RESET. -/
theorem witness_FaultsOnlyGrowBetweenResets :
    (∃ t, exec .usTick { base with faults := ⟨true, true⟩ } = .next t) ∧
    (∃ t, exec (.rx 0x00#8) (serving 0xF8#8) = .next t ∧ t.faults.rxOverrun = true) ∧
    (∃ t, exec .msTick toggling = .next t ∧ t.faults.tickOverrun = true) ∧
    (∃ t, exec (.reset true) { base with faults := ⟨true, true⟩ } = .next t) :=
  ⟨⟨_, rfl⟩, ⟨_, rfl, rfl⟩, ⟨_, rfl, rfl⟩, ⟨_, rfl⟩⟩

/-- Each pending element, set and cleared. -/
theorem witness_PendingElementsHaveTheirOwnWriters :
    (∃ t, exec .usTick (running 9999 10000 true false) = .next t ∧ t.cmpPending = true) ∧
    (∃ t, exec .isrCmp compareRace = .next t ∧ t.cmpPending = false) ∧
    (∃ t, exec .usTick (running 65535 0 false false) = .next t ∧ t.ovfPending = true) ∧
    (∃ t, exec .isrOvf overflowRace = .next t ∧ t.ovfPending = false) ∧
    (∃ t, exec (.rx 0xF8#8) base = .next t ∧ t.rxPending ≠ base.rxPending) ∧
    (∃ t, exec .isrRx (serving 0x90#8) = .next t ∧ t.rxPending ≠ (serving 0x90#8).rxPending) ∧
    (∃ t, exec .msTick base = .next t ∧ t.tickFlag ≠ base.tickFlag) ∧
    (∃ t, exec .housekeep toggling = .next t ∧ t.tickFlag ≠ toggling.tickFlag) :=
  ⟨⟨_, rfl, rfl⟩, ⟨_, rfl, rfl⟩, ⟨_, rfl, rfl⟩, ⟨_, rfl, rfl⟩, ⟨_, rfl, by decide⟩, ⟨_, rfl, by decide⟩,
    ⟨_, rfl, by decide⟩, ⟨_, rfl, by decide⟩⟩

/-- The beat position and a countdown changed. -/
theorem witness_BeatAndLedCountersHaveTheirOwnWriters :
    (∃ t, exec .clock base = .next t ∧ t.beatCount ≠ base.beatCount) ∧
    (∃ t, exec .housekeep { base with tickFlag := true, midiLedTimer := 9#8, beatLedTimer := 9#8 } = .next t ∧
      t.midiLedTimer ≠ 9#8 ∧ t.beatLedTimer ≠ 9#8) :=
  ⟨⟨_, rfl, by decide⟩, ⟨_, rfl, by decide, by decide⟩⟩

theorem witness_OnlySwitchAndHousekeepWriteTheSwitchState :
    (∃ t, exec .start base = .next t) ∧ (∀ l0, Instr.start ≠ .reset l0) ∧ (∀ l, Instr.start ≠ .switch l) ∧
      Instr.start ≠ .housekeep := ⟨⟨_, rfl⟩, by simp, by simp, by simp⟩

/-- An edge of each line, and a glitch pair. -/
theorem witness_StepEmitsExactlyTheChanges :
    (∃ t, take (.plain .isrRx) (serving 0xFA#8) = .next t ∧ t.running ≠ (serving 0xFA#8).running) ∧
    (∃ t, take (.plain .isrCmp) compareRace = .next t ∧ t.clockLine ≠ compareRace.clockLine) ∧
    (∃ t, take ⟨.isrRx, some ⟨false, false, true⟩⟩ retriggered = .next t) ∧
    Event.isrRx.isReset = false ∧ Event.isrCmp.isReset = false :=
  ⟨⟨_, rfl, by decide⟩, ⟨_, rfl, by decide⟩, ⟨_, rfl⟩, rfl, rfl⟩

theorem witness_MsTickSetsTheFlagOrRecordsTheLoss :
    base.tickFlag = false ∧ toggling.tickFlag = true := by decide

/-- No tick; a tick in each other debounce state, the countdown at its last pass and before it; and a
tick in Idle with the switch released. -/
theorem witness_HousekeepWithoutToggle :
    base.tickFlag = false ∧
    (∀ d ∈ [Debounce.debouncing 1#8, .debouncing 2#8, .waitingForRelease],
      ({ toggling with debounce := d } : State).tickFlag = true ∧
      ¬ (({ toggling with debounce := d } : State).debounce = .idle ∧ toggling.switchRaw = true)) ∧
    (({ base with tickFlag := true } : State).tickFlag = true ∧
      ¬ (base.debounce = .idle ∧ ({ base with tickFlag := true } : State).switchRaw = true)) := by
  decide

theorem witness_HousekeepTogglesOnAPress :
    toggling.tickFlag = true ∧ toggling.debounce = .idle ∧ toggling.switchRaw = true := by decide

/-- Passes that sample a held switch while it is debounced do not toggle. -/
theorem witness_LedIsLitUntilThePassItsTimerNames :
    noToggle [true, false] { base with debounce := .debouncing 9#8, beatLedTimer := 2#8, running := true } :=
  ⟨nofun, fun t h => by cases h; exact ⟨nofun, fun _ _ => trivial⟩⟩

/-- The longest run of passes over which the switch may do anything, and a longer one with it held. -/
theorem witness_ManualStartFlashesTheBeatLed :
    base.debounce = .idle ∧ base.running = false ∧
      (List.replicate (Config.debounceMs.toNat + 1) false).length ≤ Config.debounceMs.toNat + 1 ∧
      (∀ l ∈ List.replicate 300 true, l = true) :=
  ⟨rfl, rfl, by simp, fun _ h => List.eq_of_mem_replicate h⟩

/-- One pass left, reached; and the longest debounce, with no pass and with one. -/
theorem witness_DebounceLastsItsPasses :
    (({ base with debounce := .debouncing 1#8 } : State).debounce = .debouncing 1#8 ∧
      1 ≤ (1#8).toNat ∧ [true].length ≤ (1#8).toNat) ∧
    (({ base with debounce := .debouncing 255#8 } : State).debounce = .debouncing 255#8 ∧
      1 ≤ (255#8).toNat ∧ [false].length ≤ (255#8).toNat) := by decide

/-- The longest run of passes the statement speaks of. -/
theorem witness_TogglesAreSpacedByTheDebounce :
    base.debounce = .idle ∧
      (List.replicate (Config.debounceMs.toNat + 1) true).length ≤ Config.debounceMs.toNat + 1 :=
  ⟨rfl, by simp⟩

theorem witness_OnePressIsOneToggle :
    base.debounce = .idle ∧
      (List.replicate Config.debounceMs.toNat false).length = Config.debounceMs.toNat :=
  ⟨rfl, by simp⟩

/-- Two bytes, each serviced in time, and two ticks, each consumed. -/
theorem witness_MetDeadlinesRecordNoFault :
    base.good = true ∧
    ∀ ls ∈ [[Line.plain (.rx 0x90#8), .plain .isrRx, .plain (.rx 0x3C#8), .plain .msTick, .plain .housekeep,
        .plain .msTick]],
      deadlinesMet base.rxPending.isSome base.tickFlag ls = true ∧
      after (fun t => t.good) (takeAll ls base) = some true := by decide

/-- A pulse under way meets the invariants, and its state has a next one. -/
theorem witness_StepKeepsTheInvariants :
    StateInv { retriggered with script := [.plain .usTick] } ∧
    ∃ t, step { retriggered with script := [.plain .usTick] } = .next t :=
  ⟨⟨⟨by decide, by decide, by decide⟩, by decide, by decide⟩, _, rfl⟩

/-- A state with an edge in its trace, about to add another. -/
def traced : State :=
  { enterRunning base with cmpPending := true, script := [.plain .isrCmp], nowUs := 4 }

theorem witness_StepKeepsTheTraceFaithful : TraceFaithful traced ∧ ∃ t, step traced = .next t :=
  ⟨⟨fun sig => by cases sig <;> rfl, List.pairwise_singleton _ _,
    fun e he => by rw [List.mem_singleton.mp (show e ∈ [(⟨0, .runLine, true⟩ : Edge)] from he)]; decide⟩, _, rfl⟩

/-! A fair run for EveryPulseEndsUnderFairness: the compare has fired, ISR_CMP comes first, and then only
microseconds pass. -/

/-- The lines of the run. -/
def fairLine : Nat → Line
  | 0 => .plain .isrCmp
  | _ + 1 => .plain .usTick

/-- The states of the run. -/
def fairState : Nat → State
  | 0 => { base with clockLine := true, cmpPending := true }
  | n + 1 => { base with trace := [⟨0, .clockLine, false⟩], nowUs := n, cursor := n + 1 }

theorem fairRun : IsRun fairState fairLine
  | 0 => rfl
  | _ + 1 => rfl

theorem fairRun_fair : Fair fairState fairLine where
  serviced e he n h := by
    have h' := h (n + 1) (Nat.le_succ n)
    simp only [services, List.mem_cons, List.not_mem_nil, or_false] at he
    obtain rfl | rfl | rfl | rfl := he <;> exact absurd h' (by simp [fairState, enabled, base, State.afterReset])
  time n := ⟨n + 1, Nat.le_succ n, rfl⟩

theorem witness_EveryPulseEndsUnderFairness :
    IsRun fairState fairLine ∧ Fair fairState fairLine ∧ StateInv (fairState 0) ∧
      (fairState 0).clockLine = true ∧
      (∀ m, 0 ≤ m → noClock (fairLine m) (fairState m)) :=
  ⟨fairRun, fairRun_fair, ⟨⟨by decide, by decide, by decide⟩, by decide, by decide⟩, rfl,
    fun m _ h => by cases m <;> simp [fairLine, Line.plain] at h⟩

/-- The smallest width. -/
theorem witness_EveryTimerWidthHoldsThePulseWidths : 14 ≤ 14 := Nat.le_refl 14

/-- Timers of the smallest width: the widest pulse one microsecond before its end, and an overflow. -/
theorem witness_EveryPulseTimerKeepsItsInvariants :
    14 ≤ 14 ∧ PulseTimer.Inv (⟨8190#14, true, 8191#14, true⟩ : PulseTimer 14) ∧
    PulseTimer.Inv (⟨16383#14, true, 8191#14, false⟩ : PulseTimer 14) ∧
    PulseTimer.overflows (⟨16383#14, true, 8191#14, false⟩ : PulseTimer 14) = true :=
  ⟨by decide, ⟨by decide, by decide, by decide⟩, ⟨by decide, by decide, by decide⟩, by decide⟩

/-- At another width the timer runs the same way: with 14 bits it overflows from 16383, with 20 from
1048575 (R75). -/
theorem test_other_widths :
    PulseTimer.overflows (⟨16383#14, true, 0#14, false⟩ : PulseTimer 14) = true ∧
    PulseTimer.overflows (⟨16383#20, true, 0#20, false⟩ : PulseTimer 20) = false ∧
    PulseTimer.overflows (⟨1048575#20, true, 0#20, false⟩ : PulseTimer 20) = true := by decide

/-- The premises about the environment can be met: a conforming line, related time bases. -/
theorem witness_premises :
    conformingLine Config.frameUs [.plain (.rx 0xF8#8), .plain .isrRx] = true ∧
    conformingLine 319 [.plain (.rx 0xF8#8)] = false ∧
    ticksPerMs 2 0 [.plain .usTick, .plain .usTick, .plain .msTick] = true ∧
    ticksPerMs 2 0 [.plain .usTick, .plain .msTick] = false := by decide

end Sys2Proof.Tests
end

