-- ==== Sys2Proof/Proofs/TimerWidth.lean ====
section
/-! SUPPORT. The pulse widths of every counter width W from 14 on (R7). -/

namespace Sys2Proof.Machine

/-- The default width and every measured half-interval end before the counter overflows (R7, R43 item 5). -/
theorem pulseWidth_lt_lastCount {W : Nat} (h : 14 ≤ W) (known : Bool) (e : BitVec W) :
    (pulseWidth known e).toNat < (lastCount W).toNat := by
  rw [lastCount_toNat]
  exact (pulseWidth_le h known e).trans_lt (maxWidth_lt h)

/-- Settles O51: the width's value, then the bound on every pulse width read at the overflow point. -/
theorem everyTimerWidthHoldsThePulseWidths : Obligations.EveryTimerWidthHoldsThePulseWidths := by
  unfold Obligations.EveryTimerWidthHoldsThePulseWidths
  refine ⟨rfl, fun W hW => ⟨lastCount_toNat W, fun known e => ⟨pulseWidth_toNat hW known e, ?_⟩⟩⟩
  simpa only [lastCount_toNat] using pulseWidth_lt_lastCount hW known e

end Sys2Proof.Machine
end

section
/-! SUPPORT. What an instruction does to the cursor and to the fault bits (10_state.md R20, R38). -/

namespace Sys2Proof.Machine

@[simp] theorem switchStep_cursor (s : State) : (switchStep s).cursor = s.cursor := by
  obtain ⟨_, _, _, _, _, _, h⟩ := switchStep_frame s
  rw [h]

@[simp] theorem switchStep_faults (s : State) : (switchStep s).faults = s.faults := by
  obtain ⟨_, _, _, _, _, _, h⟩ := switchStep_frame s
  rw [h]

/-- No instruction but RESET writes the cursor: a step counts its stimulus after the instruction (R20). -/
theorem exec_keeps_cursor {i : Instr} {s t : State} (h : exec i s = .next t)
    (hi : ∀ l0, i ≠ .reset l0) : t.cursor = s.cursor := by
  have hc := exec_next_cases h
  cases i
  case reset l0 => exact absurd rfl (hi l0)
  case rx => obtain ⟨-, rfl⟩ | ⟨-, rfl⟩ := hc <;> simp
  case msTick => obtain ⟨-, rfl⟩ | ⟨-, rfl⟩ := hc <;> simp
  case isrRx =>
    obtain ⟨b, -, hb⟩ := hc
    obtain ⟨-, -, -, -, -, -, hcur, -, -⟩ := exec_instrOfByte_frame hb
    simpa using hcur
  all_goals simp [hc]

/-- What an instruction other than RESET does to the fault bits: nothing, or an RX that finds a byte
pending records RxOverrun, or an MS_TICK that finds the flag set records TickOverrun (R65, R89). -/
theorem exec_faults_cases {i : Instr} {s t : State} (h : exec i s = .next t)
    (hi : ∀ l0, i ≠ .reset l0) :
    t.faults = s.faults ∨
    ((∃ b, i = .rx b) ∧ s.rxPending ≠ none ∧ t.faults = s.faults.withRxOverrun) ∨
    (i = .msTick ∧ s.tickFlag = true ∧ t.faults = s.faults.withTickOverrun) := by
  have hc := exec_next_cases h
  cases i
  case reset l0 => exact absurd rfl (hi l0)
  case rx b =>
    obtain ⟨-, rfl⟩ | ⟨hb, rfl⟩ := hc
    · exact .inl (holdByte_faults b s)
    · exact .inr (.inl ⟨⟨b, rfl⟩, hb, raiseRxOverrun_faults s⟩)
  case msTick =>
    obtain ⟨-, rfl⟩ | ⟨ht, rfl⟩ := hc
    · exact .inl (setTickFlag_faults true s)
    · exact .inr (.inr ⟨rfl, ht, raiseTickOverrun_faults s⟩)
  case isrRx =>
    obtain ⟨b, -, hb⟩ := hc
    obtain ⟨-, -, -, -, hf, -, -, -, -⟩ := exec_instrOfByte_frame hb
    exact .inl (by simpa using hf)
  all_goals exact .inl (by simp [hc])

/-- Settles O8: RESET writes 0 and is not counted; any other stimulus leaves the cursor to the step's count. -/
theorem cursorCountsStimuli : Obligations.CursorCountsStimuli := by
  unfold Obligations.CursorCountsStimuli
  intro l s t h
  obtain ⟨u, hu, rfl⟩ := take_eq_next_iff.mp h
  rw [endStep_cursor]
  cases he : l.event <;> rw [he] at hu
  case reset l0 =>
    rw [exec_next_cases hu, countStimulus_reset rfl]
    exact resetMachine_cursor l0 _
  all_goals
    rw [countStimulus_other rfl, exec_keeps_cursor hu nofun]
    exact congrArg (· + 1) (beginStep_cursor l s)

/-- Settles O32: each of the three things an instruction can do to the fault bits keeps the set ones, and
adds one only where the clause allows it. -/
theorem faultsOnlyGrowBetweenResets : Obligations.FaultsOnlyGrowBetweenResets := by
  unfold Obligations.FaultsOnlyGrowBetweenResets
  constructor
  · intro i s t h hi
    obtain hf | ⟨hrx, -, hf⟩ | ⟨hms, -, hf⟩ := exec_faults_cases h hi
    · simp +contextual [hf]
    · simp +contextual [hf, hrx, FaultBits.withRxOverrun]
    · simp +contextual [hf, hms, FaultBits.withTickOverrun]
  · intro l0 s t h
    rw [exec_next_cases h]
    exact resetMachine_faults l0 s

end Sys2Proof.Machine
end

section
/-! SUPPORT. The receiver and its service (40_message_decoder.md R65 to R67). -/

namespace Sys2Proof.Machine

/-- A byte that finds none pending waits for service (R65). -/
theorem exec_rx_of_none {s : State} (h : s.rxPending = none) (b : Byte) :
    exec (.rx b) s = .next (holdByte b s) := by
  rw [exec_rx, h]

/-- A byte that finds one pending is lost, and the overrun recorded (R65). -/
theorem exec_rx_of_some {s : State} {c : Byte} (h : s.rxPending = some c) (b : Byte) :
    exec (.rx b) s = .next (raiseRxOverrun s) := by
  rw [exec_rx, h]

/-- ISR_RX has no step where no byte is pending (R66). -/
theorem exec_isrRx_of_none {s : State} (h : s.rxPending = none) :
    exec .isrRx s = .refused .noPendingByte := by
  rw [exec_isrRx, h]

/-- ISR_RX on a pending byte is the instruction of that byte, on the state without it (R66). -/
theorem exec_isrRx_of_some {s : State} {b : Byte} (h : s.rxPending = some b) :
    exec .isrRx s = exec (instrOfByte b) (consumeByte s) := by
  rw [exec_isrRx, h]

/-- A byte that is none of the four messages stands for IGNORE (R60, R64). -/
theorem instrOfByte_eq_ignore {b : Byte} (h8 : b ≠ 0xF8#8) (hA : b ≠ 0xFA#8) (hB : b ≠ 0xFB#8)
    (hC : b ≠ 0xFC#8) : instrOfByte b = .ignore b := by
  have hd : decodeByte b = .ignore := (decodeByte_eq_ignore_iff b).mpr (by simp [isMessageByte, *])
  rw [instrOfByte, hd]

/-- Settles O11: ISR_RX is the byte's instruction on the consumed state; it is enabled, so it has a step,
and no byte's instruction writes the receiver. -/
theorem isrRxPerformsTheDecodedByte : Obligations.IsrRxPerformsTheDecodedByte := by
  unfold Obligations.IsrRxPerformsTheDecodedByte
  refine fun s => ⟨exec_isrRx_of_none, fun b hb => ?_⟩
  have henabled : enabled .isrRx s = true := Option.isSome_iff_exists.mpr ⟨b, hb⟩
  obtain ⟨t, ht⟩ : ∃ t, exec .isrRx s = .next t := exec_event_of_enabled henabled
  have hop : exec (instrOfByte b) (consumeByte s) = .next t := exec_isrRx_of_some hb ▸ ht
  obtain ⟨hrx, -⟩ := exec_instrOfByte_frame hop
  exact ⟨t, ht, hop, hrx.trans (consumeByte_rxPending s)⟩

/-- Settles O10: by whether a byte is pending, RX holds its byte or records the overrun. -/
theorem rxHoldsTheByteOrRecordsTheOverrun : Obligations.RxHoldsTheByteOrRecordsTheOverrun := by
  unfold Obligations.RxHoldsTheByteOrRecordsTheOverrun
  exact fun b _ => ⟨fun h => exec_rx_of_none h b, fun _ h => exec_rx_of_some h b⟩

/-- Settles O12: a byte that is no message stands for IGNORE, which leaves the consumed state as it is. -/
theorem ignoredByteChangesNothing : Obligations.IgnoredByteChangesNothing := by
  unfold Obligations.IgnoredByteChangesNothing
  refine ⟨exec_ignore, fun b s hb h8 hA hB hC => ?_⟩
  rw [exec_isrRx_of_some hb, instrOfByte_eq_ignore h8 hA hB hC]
  exact exec_ignore b (consumeByte s)

end Sys2Proof.Machine
end

section
/-! SUPPORT. The pulse timing engine: CLOCK's steps, the timer's microsecond and the two timer services
(41_pulse_engine.md R68 to R77). -/

namespace Sys2Proof.Machine

/-- The draws that the script line fixes are those of the CLOCK (R62). -/
theorem drawsOf_of_draw_eq_some {s : State} {d : Draws} (h : s.draw = some d) : drawsOf s = d := by
  rw [drawsOf, h, Option.getD_some]

/-- A CLOCK clears a pending flag exactly where its draw discards it (R72). -/
theorem keptUnless_eq_ite (discard flag : Bool) :
    keptUnless discard flag = if discard = true then false else flag := by
  cases discard
  · exact keptUnless_false flag
  · exact keptUnless_true flag

/-- The width of the next pulse, by the two conditions on a known interval (R27, R70). -/
theorem pulseWidth_intervalKnown (s : State) (e : Ticks) :
    pulseWidth s.intervalKnown e =
      if s.intervalValid = true ∧ s.timer.running = true then e / 2#Config.timerWidth
      else 5000#Config.timerWidth := by
  simp only [pulseWidth, State.intervalKnown, Bool.and_eq_true, Config.defaultWidthUs]

/-- A choice on whether the beat is complete, by the beat position (R71). -/
theorem ite_completesBeat {α : Type} (s : State) (a b : α) :
    (if completesBeat s = true then a else b) = if s.beatCount.val + 1 = 24 then a else b := by
  simp only [completesBeat, decide_eq_true_eq]

/-- Settles O13: CLOCK with the step's draws, field by field; its choices read as R69 to R72 write them. -/
theorem clockPerformsItsSixSteps : Obligations.ClockPerformsItsSixSteps := by
  unfold Obligations.ClockPerformsItsSixSteps
  refine fun s => ⟨drawsOf s, s.freeIndex + 1, fun _ => drawsOf_of_draw_eq_some, ?_⟩
  rw [exec_clock, Host.Outcome.next.injEq]
  apply State.ext
  case beatCount => exact ite_completesBeat s _ _
  case beatLedTimer => exact ite_completesBeat s _ _
  case timer => exact PulseTimer.ext rfl rfl (pulseWidth_intervalKnown s s.timer.count) rfl
  case cmpPending => exact keptUnless_eq_ite _ _
  case ovfPending => exact keptUnless_eq_ite _ _
  all_goals rfl

/-- While Stopped the beat LED is dark, whatever its countdown (R40, R68). -/
theorem beatLed_of_stopped {s : State} (h : s.running = false) : s.beatLed = false := by
  rw [State.beatLed, h, Bool.and_false]

/-- The transport state is no input of CLOCK, and it passes through unchanged (R68). -/
theorem exec_clock_with_running (s : State) (r : Bool) :
    exec .clock { s with running := r } =
      .next { useFree (performClock (drawsOf s) s) with running := r } := rfl

/-- Settles O14: CLOCK neither reads nor writes the transport state, and Stopped keeps the beat LED dark. -/
theorem clockIsNotGatedByTheTransport : Obligations.ClockIsNotGatedByTheTransport := by
  unfold Obligations.ClockIsNotGatedByTheTransport
  intro s r
  have hrun : (useFree (performClock (drawsOf s) s)).running = s.running := by simp
  exact ⟨_, exec_clock s, hrun, fun h => beatLed_of_stopped (hrun.trans h), exec_clock_with_running s r⟩

/-- A microsecond leaves a stopped timer as it is (R73). -/
theorem tickTimer_of_stopped {s : State} (h : s.timer.running = false) : tickTimer s = s := by
  obtain ⟨-, hov, hfires, htick⟩ | ⟨hrun, -⟩ | ⟨hrun, -⟩ := s.timer.tick_cases
  · simp [tickTimer, hov, hfires, htick]
  all_goals simp [h] at hrun

/-- At the counter's last value the timer overflows and stops itself (R73, R75). -/
theorem tickTimer_of_lastCount {s : State} (h : s.timer.running = true)
    (hc : s.timer.count = lastCount Config.timerWidth) :
    tickTimer s =
      { s with
        ovfPending := true
        timer := { s.timer with count := 0#Config.timerWidth, running := false } } := by
  obtain ⟨hrun, -⟩ | ⟨-, -, hov, hfires, htick⟩ | ⟨-, hne, -⟩ := s.timer.tick_cases
  · simp [h] at hrun
  · simp [tickTimer, hov, hfires, htick]
  · exact absurd hc hne

/-- Below its last value the counter goes up by one, and an armed compare that the new count has reached
fires and is disarmed (R73, R74). -/
theorem tickTimer_of_ne_lastCount {s : State} (h : s.timer.running = true)
    (hc : s.timer.count ≠ lastCount Config.timerWidth) :
    tickTimer s =
      { s with
        timer := { s.timer with
          count := s.timer.count + 1#Config.timerWidth
          armed := if s.timer.armed = true ∧ s.timer.cmp.toNat ≤ s.timer.count.toNat + 1 then false
            else s.timer.armed }
        cmpPending := if s.timer.armed = true ∧ s.timer.cmp.toNat ≤ s.timer.count.toNat + 1 then true
          else s.cmpPending } := by
  obtain ⟨hrun, -⟩ | ⟨-, heq, -⟩ | ⟨-, -, hov, hfires, -, htick⟩ := s.timer.tick_cases
  · simp [h] at hrun
  · exact absurd heq hc
  · simp only [tickTimer, htick, hov, ← hfires]
    cases s.timer.fires <;> simp

/-- Settles O16: the three things a microsecond does to the timer, on the state with the time advanced. -/
theorem usTickRunsThePulseTimer : Obligations.UsTickRunsThePulseTimer := by
  unfold Obligations.UsTickRunsThePulseTimer
  intro s
  rw [exec_usTick, tickTimer_advanceTime]
  refine ⟨fun hrun => ?_, fun hrun hc => ?_, fun hrun hc => ?_⟩
  · rw [tickTimer_of_stopped hrun]
    rfl
  · have hlast : s.timer.count = lastCount Config.timerWidth :=
      BitVec.eq_of_toNat_eq (hc.trans lastCount_timerWidth_toNat.symm)
    rw [tickTimer_of_lastCount hrun hlast]
    rfl
  · have hne : s.timer.count ≠ lastCount Config.timerWidth := by
      intro heq
      rw [heq, lastCount_timerWidth_toNat] at hc
      exact absurd hc (lt_irrefl _)
    have hsucc := count_succ_toNat hne
    refine ⟨s.timer.count + 1#Config.timerWidth, hsucc, ?_⟩
    rw [tickTimer_of_ne_lastCount hrun hne, hsucc]
    rfl

/-- Driving a line low adds an entry exactly where it was high (R41, R76). -/
theorem append_edgesOf_low (tr : List Edge) (time : Nat) (sig : Signal) (old : Bool) :
    tr ++ edgesOf time sig old false = if old = true then tr ++ [⟨time, sig, false⟩] else tr := by
  cases old
  · rw [edgesOf_same, List.append_nil, if_neg Bool.false_ne_true]
  · rw [edgesOf_fall, if_pos rfl]

/-- Settles O18: by its flag, ISR_CMP is refused or drives the line low. -/
theorem isrCmpEndsThePulse : Obligations.IsrCmpEndsThePulse := by
  unfold Obligations.IsrCmpEndsThePulse
  refine fun s => ⟨fun h => ?_, fun h => ?_⟩
  · rw [exec_isrCmp, h, if_neg Bool.false_ne_true]
  · rw [exec_isrCmp, if_pos h, ← append_edgesOf_low]
    rfl

/-- Settles O19: by its flag, ISR_OVF is refused or forgets the interval. -/
theorem isrOvfForgetsTheInterval : Obligations.IsrOvfForgetsTheInterval := by
  unfold Obligations.IsrOvfForgetsTheInterval
  refine fun s => ⟨fun h => ?_, fun h => ?_⟩
  · rw [exec_isrOvf, h, if_neg Bool.false_ne_true]
  · rw [exec_isrOvf, if_pos h]
    rfl

end Sys2Proof.Machine
end

section
/-! SUPPORT. The transport: entering Running and entering Stopped (42_transport.md R81 to R87). -/

namespace Sys2Proof.Machine

/-- Driving a line high adds an entry exactly where it was low (R41, R81). -/
theorem append_edgesOf_high (tr : List Edge) (time : Nat) (sig : Signal) (old : Bool) :
    tr ++ edgesOf time sig old true = if old = true then tr else tr ++ [⟨time, sig, true⟩] := by
  cases old
  · rw [edgesOf_rise, if_neg Bool.false_ne_true]
  · rw [edgesOf_same, List.append_nil, if_pos rfl]

/-- START and CONTINUE are one procedure (R83, R84). -/
theorem exec_start_or_cont {i : Instr} (h : i = .start ∨ i = .cont) (s : State) :
    exec i s = .next (enterRunning s) := by
  obtain rfl | rfl := h
  · exact exec_start s
  · exact exec_cont s

/-- Settles O27: either instruction is ENTER_RUNNING, which drives the run line high. -/
theorem startAndContinueEnterRunning : Obligations.StartAndContinueEnterRunning := by
  unfold Obligations.StartAndContinueEnterRunning
  intro i s h
  rw [exec_start_or_cont h, ← append_edgesOf_high]
  rfl

/-- Settles O28: STOP is ENTER_STOPPED, which drives the run line low, and Stopped keeps the beat LED dark. -/
theorem stopEntersStopped : Obligations.StopEntersStopped := by
  unfold Obligations.StopEntersStopped
  refine fun s => ⟨enterStopped s, exec_stop s, beatLed_of_stopped (enterStopped_running s), ?_⟩
  rw [← append_edgesOf_low]
  rfl

end Sys2Proof.Machine
end

section
/-! SUPPORT. Housekeeping: the tick, the switch level and the pass that does not toggle
(43_housekeeping.md R89 to R95). -/

namespace Sys2Proof.Machine

/-- A tick that finds the flag clear sets it (R89). -/
theorem exec_msTick_of_clear {s : State} (h : s.tickFlag = false) :
    exec .msTick s = .next (setTickFlag true s) := by
  rw [exec_msTick, h, if_neg Bool.false_ne_true]

/-- A tick that finds the flag set is lost, and the overrun recorded (R89). -/
theorem exec_msTick_of_set {s : State} (h : s.tickFlag = true) :
    exec .msTick s = .next (raiseTickOverrun s) := by
  rw [exec_msTick, if_pos h]

/-- HOUSEKEEP has no step where no tick is flagged (R90). -/
theorem exec_housekeep_of_clear {s : State} (h : s.tickFlag = false) :
    exec .housekeep s = .refused .noTick := by
  rw [exec_housekeep, h, if_neg Bool.false_ne_true]

/-- A flagged tick is consumed, and the switch and the LEDs take their steps after it (R90). -/
theorem exec_housekeep_of_set {s : State} (h : s.tickFlag = true) :
    exec .housekeep s = .next (ledStep (switchStep (setTickFlag false s))) := by
  rw [exec_housekeep, if_pos h]

/-- The debounce state after a pass that does not toggle, by the one before it and the switch level it
samples (R91 to R93). -/
def quietDebounce (d : Debounce) (pressed : Bool) : Debounce :=
  match d with
  | .idle => .idle
  | .debouncing r => debounceNext r
  | .waitingForRelease => if pressed = true then .waitingForRelease else .idle

/-- Writing the debounce state that is already there changes nothing. -/
theorem setDebounce_of_eq {d : Debounce} {s : State} (h : s.debounce = d) : setDebounce d s = s := by
  rw [← h]
  rfl

/-- Unless it finds the switch pressed in Idle, `switch_step()` only moves the debounce state (R91 to
R93). -/
theorem switchStep_of_not_pressed_idle {s : State}
    (h : ¬ (s.debounce = .idle ∧ s.switchRaw = true)) :
    switchStep s = setDebounce (quietDebounce s.debounce s.switchRaw) s := by
  obtain ⟨hd, hs, -⟩ | ⟨hd, -, hstep⟩ | ⟨r, hd, hstep⟩ | ⟨hd, hs, hstep⟩ | ⟨hd, hs, hstep⟩ :=
    switchStep_cases s
  case inl => exact absurd ⟨hd, hs⟩ h
  case inr.inl => rw [hstep, hd, quietDebounce, setDebounce_of_eq hd]
  case inr.inr.inl => rw [hstep, hd, quietDebounce]
  case inr.inr.inr.inl => rw [hstep, hd, hs, quietDebounce, if_pos rfl, setDebounce_of_eq hd]
  case inr.inr.inr.inr => rw [hstep, hd, hs, quietDebounce, if_neg Bool.false_ne_true]

/-- A pass that does not toggle consumes the tick, moves the debounce state and counts both LEDs down
(R90). -/
theorem exec_housekeep_without_toggle {s : State} (ht : s.tickFlag = true)
    (h : ¬ (s.debounce = .idle ∧ s.switchRaw = true)) :
    exec .housekeep s =
      .next (ledStep (setDebounce (quietDebounce s.debounce s.switchRaw) (setTickFlag false s))) := by
  have hstep := switchStep_of_not_pressed_idle (s := setTickFlag false s) h
  rw [exec_housekeep_of_set ht, hstep]
  rfl

/-- Settles O37: by the tick flag, MS_TICK sets it or records the lost tick. -/
theorem msTickSetsTheFlagOrRecordsTheLoss : Obligations.MsTickSetsTheFlagOrRecordsTheLoss := by
  unfold Obligations.MsTickSetsTheFlagOrRecordsTheLoss
  exact fun _ => ⟨exec_msTick_of_clear, exec_msTick_of_set⟩

/-- Settles O38: SWITCH is the write of the raw level. -/
theorem switchWritesTheLevel : Obligations.SwitchWritesTheLevel := by
  unfold Obligations.SwitchWritesTheLevel
  exact exec_switch

/-- Settles O39: the pass on the consumed tick, field by field; the debounce's end read as R92 writes it. -/
theorem housekeepWithoutToggle : Obligations.HousekeepWithoutToggle := by
  unfold Obligations.HousekeepWithoutToggle
  refine fun s => ⟨exec_housekeep_of_clear, fun ht hq => ?_⟩
  refine ⟨_, exec_housekeep_without_toggle ht hq, rfl, countDown_toNat s.midiLedTimer,
    countDown_toNat s.beatLedTimer, ?_, rfl⟩
  rw [ledStep_debounce, setDebounce_debounce]
  cases s.debounce with
  | idle => rfl
  | debouncing r => exact debounceNext_eq r
  | waitingForRelease => rfl

end Sys2Proof.Machine
end

section
/-! SUPPORT. RESET: the Pulse Timer and the outputs it leaves (70_reset_and_hazards.md R116). -/

namespace Sys2Proof.Machine

/-- The activity LED is dark where its countdown has run out (R39). -/
theorem activityLed_of_midiLedTimer_zero {s : State} (h : s.midiLedTimer = 0#8) :
    s.activityLed = false := by
  rw [State.activityLed, h]
  rfl

/-- At reset the counter of the Pulse Timer stands at 0, at every width (R28). -/
theorem PulseTimer.atReset_count_toNat (W : Nat) : (PulseTimer.atReset W).count.toNat = 0 := by
  rw [PulseTimer.atReset_count, BitVec.toNat_zero]

/-- At reset the compare value of the Pulse Timer is 0, at every width (R30). -/
theorem PulseTimer.atReset_cmp_toNat (W : Nat) : (PulseTimer.atReset W).cmp.toNat = 0 := by
  rw [PulseTimer.atReset_cmp, BitVec.toNat_zero]

/-- RESET leaves the run line low: it mirrors the transport state, which is Stopped (R26). -/
theorem resetMachine_runLine (l0 : Bool) (s : State) : (resetMachine l0 s).runLine = false :=
  resetMachine_running l0 s

/-- RESET leaves the activity LED off (R39). -/
theorem resetMachine_activityLed (l0 : Bool) (s : State) : (resetMachine l0 s).activityLed = false :=
  activityLed_of_midiLedTimer_zero (resetMachine_midiLedTimer l0 s)

/-- RESET leaves the beat LED off (R40). -/
theorem resetMachine_beatLed (l0 : Bool) (s : State) : (resetMachine l0 s).beatLed = false :=
  beatLed_of_stopped (resetMachine_running l0 s)

/-- Settles O48: RESET answers the reset machine; its stored elements are the reset values, and its
counter, compare value and computed outputs have the lemmas above. -/
theorem resetRestoresEveryElement : Obligations.ResetRestoresEveryElement := by
  unfold Obligations.ResetRestoresEveryElement
  intro l0 s
  have hcount : (resetMachine l0 s).timer.count.toNat = 0 := PulseTimer.atReset_count_toNat _
  have hcmp : (resetMachine l0 s).timer.cmp.toNat = 0 := PulseTimer.atReset_cmp_toNat _
  exact ⟨resetMachine l0 s, exec_reset l0 s, rfl, rfl, rfl, rfl, rfl, rfl, hcount, rfl, hcmp, rfl, rfl,
    rfl, rfl, rfl, rfl, rfl, rfl, rfl, rfl, rfl, resetMachine_runLine l0 s,
    resetMachine_activityLed l0 s, resetMachine_beatLed l0 s⟩

end Sys2Proof.Machine
end

section
/-! SUPPORT. The decoder and the encoder agree (40_message_decoder.md R64, 30_encoding.md R58). -/

namespace Sys2Proof

/-- A byte is the encoding of the instruction it decodes to (R58, R61). -/
theorem encode_instrOfByte (b : Byte) : encode (instrOfByte b) = some [b] := by
  obtain ⟨rfl, hd⟩ | ⟨rfl, hd⟩ | ⟨rfl, hd⟩ | ⟨rfl, hd⟩ | ⟨-, hd⟩ := decodeByte_cases b <;>
    rw [instrOfByte, hd] <;> rfl

/-- A byte decodes to a well-formed instruction: an IGNORE holds no message byte (R58, R60). -/
theorem instrOfByte_wf (b : Byte) : (instrOfByte b).wf = true := by
  cases hd : decodeByte b <;> rw [instrOfByte, hd]
  case ignore => simpa [Instr.wf] using (decodeByte_eq_ignore_iff b).mp hd
  all_goals rfl

/-- A well-formed IGNORE is what its byte stands for (R60, R64). -/
theorem instrOfByte_of_wf_ignore {b : Byte} (h : (Instr.ignore b).wf = true) :
    instrOfByte b = .ignore b := by
  have hd : decodeByte b = .ignore := (decodeByte_eq_ignore_iff b).mpr (by simpa [Instr.wf] using h)
  rw [instrOfByte, hd]

/-- A well-formed instruction with an encoding is encoded by the byte that stands for it (R58, R61). -/
theorem exists_byte_of_encode {i : Instr} {bs : List Byte} (hwf : i.wf = true)
    (h : encode i = some bs) : ∃ b, bs = [b] ∧ instrOfByte b = i := by
  cases i <;> simp only [encode, Option.some.injEq, reduceCtorEq] at h
  case ignore b => exact ⟨b, h.symm, instrOfByte_of_wf_ignore hwf⟩
  all_goals exact ⟨_, h.symm, rfl⟩

/-- Settles O1: an encoding is one byte, and the byte stands for the instruction; the converse by the five
operations a byte decodes to. -/
theorem decodeInvertsEncode : Obligations.DecodeInvertsEncode := by
  unfold Obligations.DecodeInvertsEncode
  refine ⟨fun i bs rest hwf h => ?_, fun b => ⟨encode_instrOfByte b, instrOfByte_wf b⟩⟩
  obtain ⟨b, rfl, rfl⟩ := exists_byte_of_encode hwf h
  exact decodeBytes_cons b rest

/-- Settles O2: the seventeen words are literals, and the decoder evaluates. -/
theorem tableWordsDecodeAsTheMapSays : Obligations.TableWordsDecodeAsTheMapSays := by
  unfold Obligations.TableWordsDecodeAsTheMapSays
  decide

end Sys2Proof
end

section
/-! SUPPORT. The step around an instruction, and when a stimulus has a step (00_scope.md R17, R18,
20_memory.md R48). -/

namespace Sys2Proof.Machine

/-- Where the script's first line is enabled, the step takes it, and the rest of the script is left. -/
theorem step_of_script {s : State} {l : Line} {rest : List Line} (hs : s.script = l :: rest)
    (he : enabled l.event s = true) : step s = take l { s with script := rest } := by
  rw [step_eq, nextLine, hs]
  simp only [he, if_true]

/-- Settles O4: the first line is taken, on the state with its draws; the step's end writes the two model
fields. -/
theorem stepTakesTheNextStimulus : Obligations.StepTakesTheNextStimulus := by
  unfold Obligations.StepTakesTheNextStimulus
  intro s l rest hs he
  rw [step_of_script hs he]
  rfl

/-- The only instruction read from one byte is the one the byte stands for (R61). -/
theorem instrOfByte_of_decodeBytes {b : Byte} {i : Instr} {rest : List Byte}
    (h : decodeBytes [b] = .ok (i, rest)) : instrOfByte b = i := by
  rw [decodeBytes_cons] at h
  exact (Prod.mk.inj (Except.ok.inj h)).1

/-- Settles O3: the line's ISR_RX is enabled, and it is the byte's instruction on the state without the
byte. -/
theorem stepRunsTheDecodedByte : Obligations.StepRunsTheDecodedByte := by
  unfold Obligations.StepRunsTheDecodedByte
  intro s d rest b i hs hb hi
  have henabled : enabled .isrRx s = true := Option.isSome_iff_exists.mpr ⟨b, hb⟩
  have hexec : exec .isrRx (beginStep ⟨.isrRx, d⟩ { s with script := rest }) =
      exec i { s with script := rest, draw := d, rxPending := none } := by
    rw [exec_isrRx_of_some (s := beginStep ⟨.isrRx, d⟩ { s with script := rest }) hb,
      instrOfByte_of_decodeBytes hi]
    rfl
  rw [step_of_script hs henabled, take, Event.toInstr, hexec]
  rfl

/-- Settles O5: a placed word is a pending byte with ISR_RX as the script's next line, which leaves the
script as it was. -/
theorem placedWordRunsNext : Obligations.PlacedWordRunsNext := by
  unfold Obligations.PlacedWordRunsNext
  intro s nbits w i hi
  obtain ⟨hbits, hbyte⟩ := (decodeTableWord_eq_some_iff nbits w i).mp hi
  have hplaced : s.withFetchWord nbits w =
      { s with rxPending := some (tableByte nbits w), script := .free .isrRx :: s.script } := by
    rw [State.withFetchWord, placeWord, if_neg hbits]
  have hdecode : decodeBytes [tableByte nbits w] = .ok (i, []) := by rw [decodeBytes_cons, hbyte]
  rw [hplaced]
  exact stepRunsTheDecodedByte _ none s.script _ i rfl rfl hdecode

/-- A line whose stimulus is enabled is taken (R17, R59). -/
theorem take_of_enabled {l : Line} {s : State} (h : enabled l.event s = true) :
    ∃ t, take l s = .next t := by
  obtain ⟨u, hu⟩ := exec_event_of_enabled ((enabled_beginStep l.event l s).trans h)
  exact ⟨_, take_eq_next_iff.mpr ⟨u, hu, rfl⟩⟩

/-- Only an enabled event answers a next state (R17, R59). -/
theorem enabled_of_exec {e : Event} {s t : State} (h : exec e.toInstr s = .next t) :
    enabled e s = true := by
  have hc := exec_event_cases h
  cases e <;> simp only [enabled]
  case isrRx =>
    obtain ⟨b, hb, -⟩ := hc
    exact Option.isSome_iff_exists.mpr ⟨b, hb⟩
  all_goals exact hc.1

/-- A line is taken exactly where its stimulus is enabled (R17, R59). -/
theorem take_iff_enabled (l : Line) (s : State) :
    (∃ t, take l s = .next t) ↔ enabled l.event s = true := by
  refine ⟨fun ⟨t, ht⟩ => ?_, take_of_enabled⟩
  obtain ⟨u, hu, -⟩ := take_eq_next_iff.mp ht
  exact (enabled_beginStep l.event l s).symm.trans (enabled_of_exec hu)

/-- Settles O6: the next line is enabled in the state left for it. -/
theorem stepAlwaysGoesOn : Obligations.StepAlwaysGoesOn := by
  unfold Obligations.StepAlwaysGoesOn
  exact fun s => take_of_enabled (nextLine_spec s).1

/-- Settles O7: the enabling conditions, event by event. -/
theorem stimulusStepsExactlyWhenEnabled : Obligations.StimulusStepsExactlyWhenEnabled := by
  unfold Obligations.StimulusStepsExactlyWhenEnabled
  intro l s
  rw [take_iff_enabled]
  cases l.event <;> simp [enabled, Option.isSome_iff_ne_none]

end Sys2Proof.Machine
end

section
/-! SUPPORT. All that an instruction can do, with the serviced byte and the switch's toggle spelled out: what
later proofs say about every instruction is a case analysis of `Effect`. -/

namespace Sys2Proof.Machine

/-- `i` performs the byte operation `op`, of byte `b`, and leaves `r` pending: by itself, or as the service
of that byte (R66). -/
def Performs (op : Instr) (b : Byte) (i : Instr) (s : State) (r : Option Byte) : Prop :=
  (i = op ∧ r = s.rxPending) ∨ (i = .isrRx ∧ s.rxPending = some b ∧ r = none)

/-- What instruction `i` does to `s` is one of these, each with the condition it needs. -/
inductive Effect (i : Instr) (s : State) : State → Prop
  /-- CLOCK (R69). -/
  | clock {r} (h : Performs .clock 0xF8#8 i s r) :
      Effect i s (useFree (performClock (drawsOf s) { s with rxPending := r }))
  /-- START and CONTINUE (R83, R84). -/
  | enterRunning {r} (h : Performs .start 0xFA#8 i s r ∨ Performs .cont 0xFB#8 i s r) :
      Effect i s (enterRunning { s with rxPending := r })
  /-- STOP (R85). -/
  | enterStopped {r} (h : Performs .stop 0xFC#8 i s r) : Effect i s (enterStopped { s with rxPending := r })
  /-- IGNORE (R67). -/
  | ignore (b : Byte) (h : i = .ignore b) : Effect i s s
  /-- An ignored byte is serviced (R66, R67). -/
  | consumeByte (b : Byte) (h : i = .isrRx) (hb : s.rxPending = some b)
      (hd : decodeByte b = .ignore) : Effect i s (consumeByte s)
  /-- RESET (R116). -/
  | reset (l0 : Bool) (h : i = .reset l0) : Effect i s (resetMachine l0 s)
  /-- RX of a byte that finds none pending (R65). -/
  | holdByte (b : Byte) (h : i = .rx b) (hb : s.rxPending = none) : Effect i s (holdByte b s)
  /-- RX of a byte that finds one pending (R65). -/
  | rxOverrun (b : Byte) (h : i = .rx b) (hb : s.rxPending ≠ none) : Effect i s (raiseRxOverrun s)
  /-- US_TICK (R73). -/
  | usTick (h : i = .usTick) : Effect i s (tickTimer (advanceTime s))
  /-- ISR_CMP (R76). -/
  | isrCmp (h : i = .isrCmp) (hc : s.cmpPending = true) : Effect i s (dropClockLine (clearCompare s))
  /-- ISR_OVF (R77). -/
  | isrOvf (h : i = .isrOvf) (hc : s.ovfPending = true) : Effect i s (forgetInterval s)
  /-- MS_TICK that finds the flag clear (R89). -/
  | msTick (h : i = .msTick) (hc : s.tickFlag = false) : Effect i s (setTickFlag true s)
  /-- MS_TICK that finds the flag set (R89). -/
  | tickOverrun (h : i = .msTick) (hc : s.tickFlag = true) : Effect i s (raiseTickOverrun s)
  /-- HOUSEKEEP without a toggle (R90 to R94). -/
  | pass (h : i = .housekeep) (ht : s.tickFlag = true)
      (hq : ¬ (s.debounce = .idle ∧ s.switchRaw = true)) :
      Effect i s (ledStep (setDebounce (quietDebounce s.debounce s.switchRaw) (setTickFlag false s)))
  /-- HOUSEKEEP that toggles (R86, R91). -/
  | toggle (h : i = .housekeep) (ht : s.tickFlag = true) (hd : s.debounce = .idle)
      (hs : s.switchRaw = true) :
      Effect i s (ledStep (setDebounce (.debouncing Config.debounceMs) (manualToggle (setTickFlag false s))))
  /-- SWITCH (R95). -/
  | switch (l : Bool) (h : i = .switch l) : Effect i s (setSwitch l s)

/-- A pass that finds the switch pressed in Idle consumes the tick, toggles, begins the debounce and counts
both LEDs down (R86, R90, R91). -/
theorem exec_housekeep_with_toggle {s : State} (ht : s.tickFlag = true) (hd : s.debounce = .idle)
    (hs : s.switchRaw = true) :
    exec .housekeep s =
      .next (ledStep (setDebounce (.debouncing Config.debounceMs) (manualToggle (setTickFlag false s)))) := by
  rw [exec_housekeep_of_set ht, switchStep, setTickFlag_debounce, setTickFlag_switchRaw, hd, hs]
  rfl

/-- What ISR_RX does is what the pending byte's operation does to the state without it (R66). -/
theorem effect_of_service {b : Byte} {s t : State} (hb : s.rxPending = some b)
    (h : exec (instrOfByte b) (consumeByte s) = .next t) : Effect .isrRx s t := by
  obtain ⟨rfl, rfl⟩ | ⟨hb', rfl⟩ | ⟨rfl, rfl⟩ | ⟨⟨h8, hA, hB, hC⟩, rfl⟩ := exec_instrOfByte_cases h
  · exact .clock (.inr ⟨rfl, hb, rfl⟩)
  · obtain rfl | rfl := hb'
    · exact .enterRunning (.inl (.inr ⟨rfl, hb, rfl⟩))
    · exact .enterRunning (.inr (.inr ⟨rfl, hb, rfl⟩))
  · exact .enterStopped (.inr ⟨rfl, hb, rfl⟩)
  · exact .consumeByte b rfl hb ((decodeByte_eq_ignore_iff b).mpr (by simp [isMessageByte, *]))

/-- What HOUSEKEEP does, by whether the pass toggles (R90). -/
theorem effect_of_housekeep {s t : State} (ht : s.tickFlag = true) (h : exec .housekeep s = .next t) :
    Effect .housekeep s t := by
  by_cases hp : s.debounce = .idle ∧ s.switchRaw = true
  · rw [exec_housekeep_with_toggle ht hp.1 hp.2, Host.Outcome.next.injEq] at h
    exact h ▸ .toggle rfl ht hp.1 hp.2
  · rw [exec_housekeep_without_toggle ht hp, Host.Outcome.next.injEq] at h
    exact h ▸ .pass rfl ht hp

/-- An instruction that answers a next state has one of the effects. -/
theorem exec_effect {i : Instr} {s t : State} (h : exec i s = .next t) : Effect i s t := by
  have hc := exec_next_cases h
  cases i
  case clock => exact hc ▸ .clock (.inl ⟨rfl, rfl⟩)
  case start => exact hc ▸ .enterRunning (.inl (.inl ⟨rfl, rfl⟩))
  case cont => exact hc ▸ .enterRunning (.inr (.inl ⟨rfl, rfl⟩))
  case stop => exact hc ▸ .enterStopped (.inl ⟨rfl, rfl⟩)
  case ignore b => exact hc ▸ .ignore b rfl
  case reset l0 => exact hc ▸ .reset l0 rfl
  case usTick => exact hc ▸ .usTick rfl
  case switch l => exact hc ▸ .switch l rfl
  case isrCmp => exact hc.2 ▸ .isrCmp rfl hc.1
  case isrOvf => exact hc.2 ▸ .isrOvf rfl hc.1
  case housekeep => exact effect_of_housekeep hc.1 h
  case isrRx =>
    obtain ⟨b, hb, hop⟩ := hc
    exact effect_of_service hb hop
  case rx b =>
    obtain ⟨hb, rfl⟩ | ⟨hb, rfl⟩ := hc
    · exact .holdByte b rfl hb
    · exact .rxOverrun b rfl hb
  case msTick =>
    obtain ⟨hf, rfl⟩ | ⟨hf, rfl⟩ := hc
    · exact .msTick rfl hf
    · exact .tickOverrun rfl hf

end Sys2Proof.Machine
end

section
/-! SUPPORT. Who writes which element (10_state.md R21 to R37): each by the cases of `Effect`. -/

namespace Sys2Proof.Machine

/-- An event that is no RESET is no RESET as an instruction. -/
theorem Event.toInstr_ne_reset {e : Event} (h : e.isReset = false) (l0 : Bool) : e.toInstr ≠ .reset l0 := by
  cases e <;> simp_all [Event.toInstr, Event.isReset]

/-- A step takes no byte operation by itself (R66). -/
theorem Event.toInstr_ne_clock (e : Event) : e.toInstr ≠ .clock := by
  cases e <;> simp [Event.toInstr]

@[simp] theorem Event.toInstr_eq_isrRx_iff {e : Event} : e.toInstr = .isrRx ↔ e = .isrRx := by
  cases e <;> simp [Event.toInstr]
@[simp] theorem Event.toInstr_eq_usTick_iff {e : Event} : e.toInstr = .usTick ↔ e = .usTick := by
  cases e <;> simp [Event.toInstr]
@[simp] theorem Event.toInstr_eq_isrOvf_iff {e : Event} : e.toInstr = .isrOvf ↔ e = .isrOvf := by
  cases e <;> simp [Event.toInstr]
@[simp] theorem Event.toInstr_eq_housekeep_iff {e : Event} : e.toInstr = .housekeep ↔ e = .housekeep := by
  cases e <;> simp [Event.toInstr]

/-- A byte operation is performed by itself or by the service of its byte. -/
theorem Performs.source {op i : Instr} {b : Byte} {s : State} {r : Option Byte}
    (h : Performs op b i s r) :
    i = op ∨ (i = .isrRx ∧ s.rxPending = some b) :=
  h.imp And.left fun h => ⟨h.1, h.2.1⟩

section Toggle
variable (s : State)

@[simp] theorem manualToggle_running : (manualToggle s).running = !s.running := by
  obtain ⟨hr, h⟩ | ⟨hr, h⟩ := manualToggle_cases s <;> simp [h, hr]
@[simp] theorem manualToggle_trace :
    (manualToggle s).trace = s.trace ++ [⟨s.nowUs, .runLine, !s.running⟩] := by
  obtain ⟨hr, h⟩ | ⟨hr, h⟩ := manualToggle_cases s <;> simp [h, hr]
@[simp] theorem manualToggle_beatCount :
    (manualToggle s).beatCount = if s.running = true then s.beatCount else 0 := by
  obtain ⟨hr, h⟩ | ⟨hr, h⟩ := manualToggle_cases s <;> simp [h, hr]
@[simp] theorem manualToggle_beatLedTimer :
    (manualToggle s).beatLedTimer = if s.running = true then s.beatLedTimer else Config.beatLedMs := by
  obtain ⟨hr, h⟩ | ⟨hr, h⟩ := manualToggle_cases s <;> simp [h, hr]
@[simp] theorem manualToggle_intervalValid : (manualToggle s).intervalValid = false := by
  obtain ⟨-, h⟩ | ⟨-, h⟩ := manualToggle_cases s <;> simp [h]

@[simp] theorem manualToggle_midiLedTimer : (manualToggle s).midiLedTimer = s.midiLedTimer := by
  obtain ⟨_, _, _, _, h⟩ := manualToggle_frame s; rw [h]
@[simp] theorem manualToggle_clockLine : (manualToggle s).clockLine = s.clockLine := by
  obtain ⟨_, _, _, _, h⟩ := manualToggle_frame s; rw [h]
@[simp] theorem manualToggle_timer : (manualToggle s).timer = s.timer := by
  obtain ⟨_, _, _, _, h⟩ := manualToggle_frame s; rw [h]
@[simp] theorem manualToggle_cmpPending : (manualToggle s).cmpPending = s.cmpPending := by
  obtain ⟨_, _, _, _, h⟩ := manualToggle_frame s; rw [h]
@[simp] theorem manualToggle_ovfPending : (manualToggle s).ovfPending = s.ovfPending := by
  obtain ⟨_, _, _, _, h⟩ := manualToggle_frame s; rw [h]
@[simp] theorem manualToggle_rxPending : (manualToggle s).rxPending = s.rxPending := by
  obtain ⟨_, _, _, _, h⟩ := manualToggle_frame s; rw [h]
@[simp] theorem manualToggle_tickFlag : (manualToggle s).tickFlag = s.tickFlag := by
  obtain ⟨_, _, _, _, h⟩ := manualToggle_frame s; rw [h]
@[simp] theorem manualToggle_switchRaw : (manualToggle s).switchRaw = s.switchRaw := by
  obtain ⟨_, _, _, _, h⟩ := manualToggle_frame s; rw [h]
@[simp] theorem manualToggle_debounce : (manualToggle s).debounce = s.debounce := by
  obtain ⟨_, _, _, _, h⟩ := manualToggle_frame s; rw [h]
@[simp] theorem manualToggle_nowUs : (manualToggle s).nowUs = s.nowUs := by
  obtain ⟨_, _, _, _, h⟩ := manualToggle_frame s; rw [h]

end Toggle

/-- Settles O29: the effects that change the transport state are the entry procedures, the toggle and
RESET. -/
theorem onlyTransportStimuliChangeRunning : Obligations.OnlyTransportStimuliChangeRunning := by
  unfold Obligations.OnlyTransportStimuliChangeRunning
  intro i s t h hne
  cases exec_effect h
  case enterRunning hp =>
    obtain hp | hp := hp <;> obtain rfl | ⟨rfl, hb⟩ := hp.source <;> simp [*]
  case enterStopped hp => obtain rfl | ⟨rfl, hb⟩ := hp.source <;> simp [*]
  case reset l0 hi => simp [hi]
  case toggle hi _ hd hs => simp [hi, hd, hs]
  all_goals simp at hne

/-- Settles O30: of the effects on the Pulse Timer those of CLOCK, US_TICK and RESET are excluded, and no
other touches it. -/
theorem onlyClockAndTickWriteTheTimer : Obligations.OnlyClockAndTickWriteTheTimer := by
  unfold Obligations.OnlyClockAndTickWriteTheTimer
  intro i s t h hclock htick hreset hservice
  cases exec_effect h
  case clock hp => exact absurd hp.source (not_or.mpr ⟨hclock, hservice⟩)
  case usTick hi => exact absurd hi htick
  case reset l0 hi => exact absurd hi (hreset l0)
  all_goals simp

/-- Settles O31: CLOCK drives the line high, ISR_CMP and RESET drive it low, and no other effect touches
it. -/
theorem onlyClockAndIsrCmpDriveTheClockLine : Obligations.OnlyClockAndIsrCmpDriveTheClockLine := by
  unfold Obligations.OnlyClockAndIsrCmpDriveTheClockLine
  intro i s t h hne
  cases exec_effect h
  case clock hp => exact .inl ⟨by simp, hp.source⟩
  case isrCmp hi _ => exact .inr ⟨by simp, .inl hi⟩
  case reset l0 hi => exact .inr ⟨by simp, .inr ⟨l0, hi⟩⟩
  all_goals simp at hne

/-- The compare becomes pending by US_TICK alone (R32). -/
theorem usTick_of_cmpPending_set {i : Instr} {s t : State} (h : Effect i s t)
    (hs : s.cmpPending = false) (ht : t.cmpPending = true) : i = .usTick := by
  cases h
  case usTick hi => exact hi
  all_goals simp [hs] at ht

/-- A pending compare is cleared by its service, by a CLOCK and by RESET alone (R32). -/
theorem source_of_cmpPending_cleared {i : Instr} {s t : State} (h : Effect i s t)
    (hs : s.cmpPending = true) (ht : t.cmpPending = false) (hi : ∀ l0, i ≠ .reset l0) :
    i = .isrCmp ∨ i = .clock ∨ (i = .isrRx ∧ s.rxPending = some 0xF8#8) := by
  cases h
  case isrCmp hi _ => exact .inl hi
  case clock hp => exact .inr hp.source
  case reset l0 hr => exact absurd hr (hi l0)
  all_goals simp [hs] at ht

/-- The overflow becomes pending by US_TICK alone (R33). -/
theorem usTick_of_ovfPending_set {i : Instr} {s t : State} (h : Effect i s t)
    (hs : s.ovfPending = false) (ht : t.ovfPending = true) : i = .usTick := by
  cases h
  case usTick hi => exact hi
  all_goals simp [hs] at ht

/-- A pending overflow is cleared by its service, by a CLOCK and by RESET alone (R33). -/
theorem source_of_ovfPending_cleared {i : Instr} {s t : State} (h : Effect i s t)
    (hs : s.ovfPending = true) (ht : t.ovfPending = false) (hi : ∀ l0, i ≠ .reset l0) :
    i = .isrOvf ∨ i = .clock ∨ (i = .isrRx ∧ s.rxPending = some 0xF8#8) := by
  cases h
  case isrOvf hi _ => exact .inl hi
  case clock hp => exact .inr hp.source
  case reset l0 hr => exact absurd hr (hi l0)
  all_goals simp [hs] at ht

/-- A byte operation changes the receiver only as a service, which leaves no byte (R34, R66). -/
theorem Performs.clears_of_ne {op i : Instr} {b : Byte} {s : State} {r : Option Byte}
    (h : Performs op b i s r) (hne : r ≠ s.rxPending) : i = .isrRx ∧ r = none := by
  obtain ⟨-, hr⟩ | ⟨hi, -, hr⟩ := h
  · exact absurd hr hne
  · exact ⟨hi, hr⟩

/-- A byte arrives by RX and goes by ISR_RX alone (R34). -/
theorem source_of_rxPending_ne {i : Instr} {s t : State} (h : Effect i s t)
    (hne : t.rxPending ≠ s.rxPending) (hi : ∀ l0, i ≠ .reset l0) :
    (s.rxPending = none ∧ ∃ b, i = .rx b ∧ t.rxPending = some b) ∨
    (i = .isrRx ∧ t.rxPending = none) := by
  cases h
  case holdByte b hi hb => exact .inl ⟨hb, b, hi, rfl⟩
  case consumeByte hi _ _ => exact .inr ⟨hi, rfl⟩
  case clock hp => exact .inr (hp.clears_of_ne hne)
  case enterRunning hp => exact .inr (hp.elim (·.clears_of_ne hne) (·.clears_of_ne hne))
  case enterStopped hp => exact .inr (hp.clears_of_ne hne)
  case reset l0 hr => exact absurd hr (hi l0)
  all_goals simp at hne

/-- The tick flag is set by MS_TICK and cleared by HOUSEKEEP alone (R35). -/
theorem source_of_tickFlag_ne {i : Instr} {s t : State} (h : Effect i s t)
    (hne : t.tickFlag ≠ s.tickFlag) (hi : ∀ l0, i ≠ .reset l0) :
    (i = .msTick ∧ t.tickFlag = true) ∨ (i = .housekeep ∧ t.tickFlag = false) := by
  cases h
  case msTick hi _ => exact .inl ⟨hi, rfl⟩
  case pass hi _ _ => exact .inr ⟨hi, rfl⟩
  case toggle hi _ _ _ => exact .inr ⟨hi, by simp⟩
  case reset l0 hr => exact absurd hr (hi l0)
  all_goals simp at hne

/-- Settles O33: element by element, from the lemmas above. -/
theorem pendingElementsHaveTheirOwnWriters : Obligations.PendingElementsHaveTheirOwnWriters := by
  unfold Obligations.PendingElementsHaveTheirOwnWriters
  intro i s t h hi
  have he : Effect i s t := exec_effect h
  exact ⟨usTick_of_cmpPending_set he, fun hs ht => source_of_cmpPending_cleared he hs ht hi,
    usTick_of_ovfPending_set he, fun hs ht => source_of_ovfPending_cleared he hs ht hi,
    fun hne => source_of_rxPending_ne he hne hi, fun hne => source_of_tickFlag_ne he hne hi⟩

/-- The beat position is written by CLOCK and on entering Running alone (R22). -/
theorem source_of_beatCount_ne {i : Instr} {s t : State} (h : Effect i s t)
    (hne : t.beatCount ≠ s.beatCount) (hi : ∀ l0, i ≠ .reset l0) :
    i = .clock ∨ i = .start ∨ i = .cont ∨
    (i = .isrRx ∧ ∃ b, s.rxPending = some b ∧ (b = 0xF8#8 ∨ b = 0xFA#8 ∨ b = 0xFB#8)) ∨
    (i = .housekeep ∧ s.debounce = .idle ∧ s.switchRaw = true ∧ s.running = false) := by
  cases h
  case clock hp => obtain rfl | ⟨rfl, hb⟩ := hp.source <;> simp [*]
  case enterRunning hp => obtain hp | hp := hp <;> obtain rfl | ⟨rfl, hb⟩ := hp.source <;> simp [*]
  case reset l0 hr => exact absurd hr (hi l0)
  case toggle hi _ hd hs =>
    have hrun : s.running = false := by
      by_contra hr
      simp [Bool.not_eq_false _ ▸ hr] at hne
    simp [hi, hd, hs, hrun]
  all_goals simp at hne

/-- The activity LED's countdown is written by CLOCK and HOUSEKEEP alone (R23). -/
theorem source_of_midiLedTimer_ne {i : Instr} {s t : State} (h : Effect i s t)
    (hne : t.midiLedTimer ≠ s.midiLedTimer) (hi : ∀ l0, i ≠ .reset l0) :
    i = .clock ∨ (i = .isrRx ∧ s.rxPending = some 0xF8#8) ∨ i = .housekeep := by
  cases h
  case clock hp => exact hp.source.imp_right .inl
  case pass hi _ _ => exact .inr (.inr hi)
  case toggle hi _ _ _ => exact .inr (.inr hi)
  case reset l0 hr => exact absurd hr (hi l0)
  all_goals simp at hne

/-- A CLOCK that writes the beat LED's countdown completes the beat (R24, R71). -/
theorem beatCount_of_performClock_beatLedTimer_ne {d : Draws} {s : State}
    (hne : (performClock d s).beatLedTimer ≠ s.beatLedTimer) : s.beatCount.val = 23 := by
  by_contra h
  simp [(completesBeat_iff s).not.mpr h] at hne

/-- The beat LED's countdown is written by a CLOCK that completes the beat, on entering Running and by
HOUSEKEEP alone (R24). -/
theorem source_of_beatLedTimer_ne {i : Instr} {s t : State} (h : Effect i s t)
    (hne : t.beatLedTimer ≠ s.beatLedTimer) (hi : ∀ l0, i ≠ .reset l0) :
    (i = .clock ∧ s.beatCount.val = 23) ∨ i = .start ∨ i = .cont ∨
    (i = .isrRx ∧ ∃ b, s.rxPending = some b ∧
      ((b = 0xF8#8 ∧ s.beatCount.val = 23) ∨ b = 0xFA#8 ∨ b = 0xFB#8)) ∨
    i = .housekeep := by
  cases h
  case clock hp =>
    have hbeat : s.beatCount.val = 23 := beatCount_of_performClock_beatLedTimer_ne (d := drawsOf s) hne
    obtain rfl | ⟨rfl, hb⟩ := hp.source <;> simp [*]
  case enterRunning hp => obtain hp | hp := hp <;> obtain rfl | ⟨rfl, hb⟩ := hp.source <;> simp [*]
  case pass hi _ _ => simp [hi]
  case toggle hi _ _ _ => simp [hi]
  case reset l0 hr => exact absurd hr (hi l0)
  all_goals simp at hne

/-- Settles O34: the beat and the two countdowns, from the lemmas above. -/
theorem beatAndLedCountersHaveTheirOwnWriters : Obligations.BeatAndLedCountersHaveTheirOwnWriters := by
  unfold Obligations.BeatAndLedCountersHaveTheirOwnWriters
  intro i s t h hi
  have he : Effect i s t := exec_effect h
  exact ⟨fun hne => source_of_beatCount_ne he hne hi, fun hne => source_of_midiLedTimer_ne he hne hi,
    fun hne => source_of_beatLedTimer_ne he hne hi⟩

/-- Settles O35: SWITCH and the two passes are the only effects on the switch state besides RESET. -/
theorem onlySwitchAndHousekeepWriteTheSwitchState :
    Obligations.OnlySwitchAndHousekeepWriteTheSwitchState := by
  unfold Obligations.OnlySwitchAndHousekeepWriteTheSwitchState
  refine fun i s t h hi => ⟨fun hswitch => ?_, fun hpass => ?_⟩
  · cases exec_effect h
    case switch l hl => exact absurd hl (hswitch l)
    case reset l0 hr => exact absurd hr (hi l0)
    all_goals simp
  · cases exec_effect h
    case pass hp _ _ => exact absurd hp hpass
    case toggle hp _ _ _ => exact absurd hp hpass
    case reset l0 hr => exact absurd hr (hi l0)
    all_goals simp

/-- No instruction but US_TICK and RESET writes ghost time (R41). -/
theorem exec_keeps_nowUs {i : Instr} {s t : State} (h : exec i s = .next t)
    (hreset : ∀ l0, i ≠ .reset l0) (htick : i ≠ .usTick) : t.nowUs = s.nowUs := by
  cases exec_effect h
  case reset l0 hi => exact absurd hi (hreset l0)
  case usTick hi => exact absurd hi htick
  all_goals simp

/-- Settles O9: US_TICK adds the one microsecond of a count, RESET writes 0, and no other event writes it. -/
theorem timeIsCountedByUsTick : Obligations.TimeIsCountedByUsTick := by
  unfold Obligations.TimeIsCountedByUsTick
  intro l s t h
  obtain ⟨u, hu, rfl⟩ := take_eq_next_iff.mp h
  rw [endStep_nowUs]
  cases he : l.event <;> rw [he] at hu
  case reset l0 => rw [exec_next_cases hu]; rfl
  case usTick => rw [exec_next_cases hu]; rfl
  all_goals exact (exec_keeps_nowUs hu nofun nofun).trans (beginStep_nowUs l s)

end Sys2Proof.Machine
end

section
/-! SUPPORT. The invariants of the Pulse Timer, of every width, and of the state (10_state.md R43). -/

namespace Sys2Proof.Machine

section Timer
variable {W : Nat} {t : PulseTimer W}

/-- At reset the Pulse Timer meets its invariants (R116). -/
theorem PulseTimer.atReset_inv (W : Nat) : (PulseTimer.atReset W).Inv :=
  ⟨nofun, nofun, (PulseTimer.atReset_cmp_toNat W).trans_le (Nat.zero_le _)⟩

/-- At the overflow point no compare is armed: an armed one is not passed, and none lies that far out (R43
item 5, R104). -/
theorem PulseTimer.Inv.armed_of_lastCount (hW : 14 ≤ W) (h : t.Inv) (hc : t.count = lastCount W) :
    t.armed = false := by
  by_contra ha
  have hle : t.count.toNat ≤ t.cmp.toNat := h.armed_bound (by simpa using ha)
  rw [hc, lastCount_toNat] at hle
  exact absurd (hle.trans h.width_bound) (maxWidth_lt hW).not_ge

/-- A microsecond keeps the timer's invariants: an overflow meets no armed compare, and a compare that
stays armed is one the new count has not reached (R73, R74). -/
theorem PulseTimer.Inv.tick (hW : 14 ≤ W) (h : t.Inv) : t.tick.Inv := by
  obtain ⟨-, -, -, htick⟩ | ⟨-, hc, -, -, htick⟩ | ⟨hrun, -, -, hfires, hsucc, htick⟩ := t.tick_cases
  · rwa [htick]
  · have ha := h.armed_of_lastCount hW hc
    rw [htick]
    exact ⟨by simp [ha], by simp [ha], h.width_bound⟩
  · have hbound : (t.armed && !t.fires) = true → t.count + 1#W ≤ t.cmp := by
      intro ha
      simp only [Bool.and_eq_true, Bool.not_eq_true', ← Bool.not_eq_true, hfires] at ha
      rw [BitVec.le_def, hsucc]
      by_contra hlt
      exact ha.2 ⟨ha.1, by omega⟩
    rw [htick]
    exact ⟨fun _ => hrun, hbound, h.width_bound⟩

/-- Arming a compare no wider than the bound and restarting the counter gives the timer's invariants,
whatever it was before (R69 steps 3 and 4). -/
theorem PulseTimer.inv_restart_arm {width : BitVec W} (hw : width.toNat ≤ maxWidth W) :
    (t.arm width).restart.Inv :=
  ⟨fun _ => rfl, fun _ => BitVec.le_def.mpr (by simp), hw⟩

/-- A timer that overflows stands at its last count (R75). -/
theorem PulseTimer.count_of_overflows (h : t.overflows = true) : t.count = lastCount W := by
  simp only [PulseTimer.overflows, Bool.and_eq_true, decide_eq_true_eq] at h
  exact h.2

/-- A disarmed compare does not fire (R74). -/
theorem PulseTimer.fires_of_disarmed (h : t.armed = false) : t.fires = false := by
  simp [PulseTimer.fires, h]

end Timer

/-- Settles O52: reset, the microsecond and the arming keep the invariants, and they exclude an armed
compare at the overflow point. -/
theorem everyPulseTimerKeepsItsInvariants : Obligations.EveryPulseTimerKeepsItsInvariants := by
  unfold Obligations.EveryPulseTimerKeepsItsInvariants
  refine fun W hW => ⟨PulseTimer.atReset_inv W, maxWidth_lt hW, fun t h =>
    ⟨h.tick hW, fun known e => PulseTimer.inv_restart_arm (pulseWidth_le hW known e), fun ho => ?_⟩⟩
  have ha := h.armed_of_lastCount hW (PulseTimer.count_of_overflows ho)
  exact ⟨ha, PulseTimer.fires_of_disarmed ha⟩

/-- The reset machine meets the invariants (R43, R116). -/
theorem stateInv_resetMachine (l0 : Bool) (s : State) : StateInv (resetMachine l0 s) :=
  ⟨PulseTimer.atReset_inv _, nofun, fun _ => .inl rfl⟩

/-- After a CLOCK the invariants hold, whatever held before: the pulse's end is armed and the timer runs
(R69). -/
theorem stateInv_performClock (d : Draws) (s : State) : StateInv (performClock d s) where
  timer := PulseTimer.inv_restart_arm (pulseWidth_le Config.minTimerWidth_le_timerWidth _ _)
  pulse_ends _ := .inl (by simp)
  stopped_unknown h := by simp at h

section StateInv
variable {s : State}

/-- Where the timer stays, the invariants stay if the clock line is dropped or goes on with its pending
compare, and the interval is forgotten or goes on with its pending overflow. -/
theorem StateInv.of_timer_eq {t : State} (h : StateInv s) (ht : t.timer = s.timer)
    (hends : t.clockLine = true → s.clockLine = true ∧ t.cmpPending = s.cmpPending)
    (hknown : t.intervalValid = false ∨ t.intervalValid = s.intervalValid ∧ t.ovfPending = s.ovfPending) :
    StateInv t where
  timer := ht ▸ h.timer
  pulse_ends hl := by
    obtain ⟨hl', hc⟩ := hends hl
    rw [ht, hc]
    exact h.pulse_ends hl'
  stopped_unknown hr := by
    obtain hi | ⟨hi, ho⟩ := hknown
    · exact .inl hi
    · rw [hi, ho]
      exact h.stopped_unknown (ht ▸ hr)

/-- A microsecond keeps the invariants: a compare that fires is pending, and a timer that stops has
overflowed (R73). -/
theorem StateInv.tickTimer (h : StateInv s) : StateInv (tickTimer s) where
  timer := h.timer.tick Config.minTimerWidth_le_timerWidth
  pulse_ends hl := by
    have hends := h.pulse_ends hl
    simp only [tickTimer_timer, tickTimer_cmpPending, Bool.or_eq_true]
    obtain ⟨-, -, -, htick⟩ | ⟨-, hc, -⟩ | ⟨-, -, -, -, -, htick⟩ := s.timer.tick_cases
    · rw [htick]
      exact hends.imp_right .inl
    · have ha := h.timer.armed_of_lastCount Config.minTimerWidth_le_timerWidth hc
      exact .inr (.inl (hends.resolve_left (by simp [ha])))
    · rw [htick]
      cases hf : s.timer.fires <;> simp [hends]
  stopped_unknown hr := by
    simp only [tickTimer_timer] at hr
    simp only [tickTimer_intervalValid, tickTimer_ovfPending, Bool.or_eq_true]
    obtain ⟨hrun, -⟩ | ⟨-, -, ho, -⟩ | ⟨hrun, -, -, -, -, htick⟩ := s.timer.tick_cases
    · exact (h.stopped_unknown hrun).imp_right .inl
    · exact .inr (.inr ho)
    · rw [htick, hrun] at hr
      exact absurd hr nofun

end StateInv

/-- Every instruction keeps the invariants of R43. -/
theorem exec_keeps_stateInv {i : Instr} {s t : State} (hs : StateInv s) (h : exec i s = .next t) :
    StateInv t := by
  cases exec_effect h
  case clock =>
    exact (stateInv_performClock (drawsOf s) _).of_timer_eq rfl (fun _ => ⟨rfl, rfl⟩) (.inr ⟨rfl, rfl⟩)
  case reset l0 _ => exact stateInv_resetMachine l0 s
  case usTick =>
    have hadvance : StateInv (advanceTime s) := hs.of_timer_eq rfl (⟨·, rfl⟩) (.inr ⟨rfl, rfl⟩)
    exact hadvance.tickTimer
  case isrCmp => exact hs.of_timer_eq rfl nofun (.inr ⟨rfl, rfl⟩)
  case isrOvf => exact hs.of_timer_eq rfl (⟨·, rfl⟩) (.inl rfl)
  case toggle => exact hs.of_timer_eq (by simp) (by simp +contextual) (by simp)
  case enterRunning => exact hs.of_timer_eq rfl (⟨·, rfl⟩) (.inl rfl)
  case enterStopped => exact hs.of_timer_eq rfl (⟨·, rfl⟩) (.inl rfl)
  all_goals exact hs.of_timer_eq rfl (⟨·, rfl⟩) (.inr ⟨rfl, rfl⟩)

/-- A property of the machine that does not read what a step adds around the instruction: the script, the
draws, the count of free values and the cursor. -/
def IgnoresSchedule (p : State → Prop) : Prop :=
  ∀ (s : State) (script : List Line) (draw : Option Draws) (freeIndex cursor : Nat),
    p s → p { s with script := script, draw := draw, freeIndex := freeIndex, cursor := cursor }

/-- Taking a line keeps what every instruction keeps. -/
theorem take_keeps {p : State → Prop} (hp : IgnoresSchedule p)
    (hexec : ∀ i s t, p s → exec i s = .next t → p t) {l : Line} {s t : State} (hs : p s)
    (h : take l s = .next t) : p t := by
  obtain ⟨u, hu, rfl⟩ := take_eq_next_iff.mp h
  have hbegin : p (beginStep l s) := hp s s.script l.draws s.freeIndex s.cursor hs
  exact hp u u.script none u.freeIndex _ (hexec _ _ _ hbegin hu)

/-- A step keeps what every instruction keeps, whatever the schedule and the draws. -/
theorem step_keeps {p : State → Prop} (hp : IgnoresSchedule p)
    (hexec : ∀ i s t, p s → exec i s = .next t → p t) {s t : State} (hs : p s)
    (h : step s = .next t) : p t := by
  have hline : p (nextLine s).2 := by
    rw [(nextLine_spec s).2]
    exact hp s _ s.draw _ s.cursor hs
  exact take_keeps hp hexec hline h

theorem stateInv_ignoresSchedule : IgnoresSchedule StateInv :=
  fun _ _ _ _ _ h => h.of_timer_eq rfl (⟨·, rfl⟩) (.inr ⟨rfl, rfl⟩)

/-- Settles O53: every instruction keeps the invariants, which do not read the schedule. -/
theorem stepKeepsTheInvariants : Obligations.StepKeepsTheInvariants := by
  unfold Obligations.StepKeepsTheInvariants
  exact fun s t => step_keeps stateInv_ignoresSchedule fun _ _ _ => exec_keeps_stateInv

/-- Settles O17: a timer that stops on a microsecond stood at its last count, where no compare is armed. -/
theorem overflowMeetsNoArmedCompare : Obligations.OverflowMeetsNoArmedCompare := by
  unfold Obligations.OverflowMeetsNoArmedCompare
  intro s t hs h hrun hstop
  rw [exec_next_cases h] at hstop ⊢
  have hstop : s.timer.tick.running = false := hstop
  have hlast : s.timer.count = lastCount Config.timerWidth := by
    obtain ⟨hr, -⟩ | ⟨-, hc, -⟩ | ⟨-, -, -, -, -, htick⟩ := s.timer.tick_cases
    · exact absurd hrun (by simp [hr])
    · exact hc
    · rw [htick, hrun] at hstop
      exact absurd hstop nofun
  have harmed := hs.timer.armed_of_lastCount Config.minTimerWidth_le_timerWidth hlast
  rw [tickTimer_advanceTime, tickTimer_of_lastCount hrun hlast]
  exact ⟨harmed, harmed, rfl⟩

end Sys2Proof.Machine
end

section
/-! SUPPORT. What an instruction emits, and the truth of the trace (10_state.md R41). -/

namespace Sys2Proof.Machine

@[simp] theorem levelsOf_nil (sig : Signal) : levelsOf sig [] = [] := rfl

theorem levelsOf_cons (sig : Signal) (e : Edge) (es : List Edge) :
    levelsOf sig (e :: es) = if e.signal = sig then e.level :: levelsOf sig es else levelsOf sig es := by
  by_cases h : e.signal = sig <;> simp [levelsOf, h]

/-- Driving a line to a level emits that level exactly where it changes (R41). -/
theorem levelsOf_edgesOf_same (time : Nat) (sig : Signal) (old new : Bool) :
    levelsOf sig (edgesOf time sig old new) = if new = old then [] else [new] := by
  cases old <;> cases new <;> simp [edgesOf, levelsOf]

/-- Driving a line emits nothing of another line. -/
theorem levelsOf_edgesOf_other {sig sig' : Signal} (h : sig' ≠ sig) (time : Nat) (old new : Bool) :
    levelsOf sig (edgesOf time sig' old new) = [] := by
  unfold edgesOf
  split_ifs <;> simp [levelsOf, h]

/-- A CLOCK emits nothing of the run line. -/
theorem levelsOf_runLine_pulseStartEdges (d : Draws) (s : State) :
    levelsOf .runLine (pulseStartEdges d s) = [] := by
  unfold pulseStartEdges
  split_ifs <;> rfl

/-- A CLOCK emits the rise of a low clock line, and of a high one nothing or the glitch pair (R69, R72). -/
theorem levelsOf_clockLine_pulseStartEdges (d : Draws) (s : State) :
    levelsOf .clockLine (pulseStartEdges d s) = (if true = s.clockLine then [] else [true]) ∨
    (levelsOf .clockLine (pulseStartEdges d s) = [false, true] ∧ s.clockLine = true) := by
  unfold pulseStartEdges
  cases hl : s.clockLine
  · exact .inl rfl
  · cases d.retriggerGlitch
    · exact .inl rfl
    · exact .inr ⟨rfl, rfl⟩

/-- The last level of a line, by the levels that the added entries give it (R41). -/
theorem lastLevel_append (sig : Signal) (tr es : List Edge) :
    lastLevel sig (tr ++ es) = (levelsOf sig es).getLastD (lastLevel sig tr) := by
  rw [lastLevel, List.foldl_append, ← lastLevel]
  generalize lastLevel sig tr = b
  induction es generalizing b with
  | nil => rfl
  | cons e es ih =>
    rw [List.foldl_cons, ih, levelsOf_cons]
    split_ifs
    · rw [List.getLastD_cons]
    · rfl

/-- From `s` to `t` the entries `es` are added: they carry the time of `s`, and for each line they are the
change of its level; `glitch` is where the clock line may have the glitch pair instead (R41, R72). -/
structure Emits (glitch : Prop) (s t : State) (es : List Edge) : Prop where
  trace : t.trace = s.trace ++ es
  time : ∀ e ∈ es, e.time = s.nowUs
  runLine : levelsOf .runLine es = if t.running = s.running then [] else [t.running]
  clockLine : levelsOf .clockLine es = (if t.clockLine = s.clockLine then [] else [t.clockLine]) ∨
    (levelsOf .clockLine es = [false, true] ∧ s.clockLine = true ∧ t.clockLine = true ∧ glitch)

/-- Where the trace and the two lines stay, nothing is emitted. -/
theorem emits_nil {glitch : Prop} {s t : State} (htrace : t.trace = s.trace) (hrun : t.running = s.running)
    (hline : t.clockLine = s.clockLine) : Emits glitch s t [] :=
  ⟨by simp [htrace], nofun, by simp [hrun], .inl (by simp [hline])⟩

/-- Driving the run line from its level to the new one emits the change. -/
theorem emits_edgesOf_runLine {glitch : Prop} {s t : State}
    (htrace : t.trace = s.trace ++ edgesOf s.nowUs .runLine s.running t.running)
    (hline : t.clockLine = s.clockLine) :
    Emits glitch s t (edgesOf s.nowUs .runLine s.running t.running) where
  trace := htrace
  time e he := by rw [(mem_edgesOf he).1]
  runLine := levelsOf_edgesOf_same _ _ _ _
  clockLine := .inl (by simp [hline, levelsOf_edgesOf_other])

/-- Dropping the clock line emits its fall where it was high (R76). -/
theorem emits_dropClockLine {glitch : Prop} (s : State) :
    Emits glitch s (dropClockLine (clearCompare s)) (edgesOf s.nowUs .clockLine s.clockLine false) where
  trace := rfl
  time e he := by rw [(mem_edgesOf he).1]
  runLine := by simp [levelsOf_edgesOf_other]
  clockLine := .inl (levelsOf_edgesOf_same _ _ _ _)

/-- A CLOCK emits the rise of the clock line, or the glitch pair (R69, R72). -/
theorem emits_performClock {glitch : Prop} (hg : glitch) (d : Draws) (s : State) (r : Option Byte) :
    Emits glitch s (useFree (performClock d { s with rxPending := r })) (pulseStartEdges d s) where
  trace := rfl
  time _ he := (mem_pulseStartEdges he).1
  runLine := by simp [levelsOf_runLine_pulseStartEdges]
  clockLine := (levelsOf_clockLine_pulseStartEdges d s).imp_right fun ⟨hl, hs⟩ => ⟨hl, hs, rfl, hg⟩

/-- Every instruction but RESET emits exactly the changes of the two lines, and a CLOCK on a high line
may emit the glitch pair (R41, R72). -/
theorem exec_emits {i : Instr} {s t : State} (h : exec i s = .next t) (hi : ∀ l0, i ≠ .reset l0) :
    ∃ es, Emits (i = .clock ∨ (i = .isrRx ∧ s.rxPending = some 0xF8#8)) s t es := by
  cases exec_effect h
  case clock hp => exact ⟨_, emits_performClock hp.source _ _ _⟩
  case isrCmp => exact ⟨_, emits_dropClockLine s⟩
  case enterRunning => exact ⟨_, emits_edgesOf_runLine rfl rfl⟩
  case enterStopped => exact ⟨_, emits_edgesOf_runLine rfl rfl⟩
  case toggle => exact ⟨_, emits_edgesOf_runLine (by cases hr : s.running <;> simp [hr]) (by simp)⟩
  case reset l0 hr => exact absurd hr (hi l0)
  all_goals exact ⟨_, emits_nil rfl rfl rfl⟩

/-- Settles O36: the instruction's emission; the ends of the step touch neither the trace nor the lines. -/
theorem stepEmitsExactlyTheChanges : Obligations.StepEmitsExactlyTheChanges := by
  unfold Obligations.StepEmitsExactlyTheChanges
  intro l s t h hreset
  obtain ⟨u, hu, rfl⟩ := take_eq_next_iff.mp h
  obtain ⟨es, htrace, htime, hrun, hclock⟩ := exec_emits hu (Event.toInstr_ne_reset hreset)
  refine ⟨es, htrace, htime, hrun, hclock.imp_right fun ⟨hl, hs, ht, hsource⟩ => ⟨hl, hs, ht, ?_⟩⟩
  obtain ⟨he, hb⟩ := hsource.resolve_left (Event.toInstr_ne_clock l.event)
  exact ⟨Event.toInstr_eq_isrRx_iff.mp he, hb⟩

/-- The level of a line after an emission is the last of its levels (R41). -/
theorem Emits.getLastD_levelsOf {glitch : Prop} {s t : State} {es : List Edge} (h : Emits glitch s t es)
    (sig : Signal) : (levelsOf sig es).getLastD (s.level sig) = t.level sig := by
  cases sig
  case runLine =>
    simp only [State.level, State.runLine, h.runLine]
    split_ifs with hr <;> simp [hr]
  case clockLine =>
    simp only [State.level]
    obtain hl | ⟨hl, -, ht, -⟩ := h.clockLine
    · rw [hl]
      split_ifs with hc <;> simp [hc]
    · simp [hl, ht]

/-- An emission keeps the trace truthful: its entries lie at the present, and time does not go back
(R41). -/
theorem TraceFaithful.of_emits {glitch : Prop} {s t : State} {es : List Edge} (hs : TraceFaithful s)
    (h : Emits glitch s t es) (hnow : s.nowUs ≤ t.nowUs) : TraceFaithful t where
  levels sig := by rw [h.trace, lastLevel_append, hs.levels, h.getLastD_levelsOf]
  ordered := by
    rw [h.trace, List.pairwise_append]
    have hnew : es.Pairwise (fun a b => a.time ≤ b.time) :=
      List.Pairwise.imp_of_mem (fun ha hb _ => (h.time _ ha).trans_le (h.time _ hb).ge)
        (List.pairwise_of_forall fun _ _ => trivial)
    exact ⟨hs.ordered, hnew, fun a ha b hb => (hs.past a ha).trans (h.time b hb).ge⟩
  past e he := by
    rw [h.trace, List.mem_append] at he
    exact (he.elim (hs.past e) fun he => (h.time e he).le).trans hnow

/-- After RESET the trace is empty and the lines are low (R116). -/
theorem traceFaithful_resetMachine (l0 : Bool) (s : State) : TraceFaithful (resetMachine l0 s) :=
  ⟨fun sig => by cases sig <;> rfl, List.Pairwise.nil, nofun⟩

/-- Every instruction keeps the trace truthful. -/
theorem exec_keeps_traceFaithful {i : Instr} {s t : State} (hs : TraceFaithful s)
    (h : exec i s = .next t) : TraceFaithful t := by
  by_cases hi : ∃ l0, i = .reset l0
  · obtain ⟨l0, rfl⟩ := hi
    exact exec_next_cases h ▸ traceFaithful_resetMachine l0 s
  · obtain ⟨es, hes⟩ := exec_emits h (not_exists.mp hi)
    refine hs.of_emits hes ?_
    by_cases htick : i = .usTick
    · subst htick
      exact exec_next_cases h ▸ Nat.le_add_right s.nowUs Config.tickUs
    · exact (exec_keeps_nowUs h (not_exists.mp hi) htick).ge

theorem traceFaithful_ignoresSchedule : IgnoresSchedule TraceFaithful :=
  fun _ _ _ _ _ h => ⟨h.levels, h.ordered, h.past⟩

/-- Settles O54: every instruction keeps the trace truthful, which does not read the schedule. -/
theorem stepKeepsTheTraceFaithful : Obligations.StepKeepsTheTraceFaithful := by
  unfold Obligations.StepKeepsTheTraceFaithful
  exact fun s t => step_keeps traceFaithful_ignoresSchedule fun _ _ _ => exec_keeps_traceFaithful

/-- Settles O50: the reset state is a reset machine. -/
theorem resetMeetsTheInvariants : Obligations.ResetMeetsTheInvariants := by
  unfold Obligations.ResetMeetsTheInvariants
  exact ⟨stateInv_resetMachine Config.switchRaw0 State.reset,
    traceFaithful_resetMachine Config.switchRaw0 State.reset⟩

/-- Settles O49: the reset state is a reset machine, whose outputs have their lemmas. -/
theorem resetLeavesTheOutputsLow : Obligations.ResetLeavesTheOutputsLow := by
  unfold Obligations.ResetLeavesTheOutputsLow
  exact ⟨rfl, rfl, resetMachine_activityLed Config.switchRaw0 State.reset,
    resetMachine_beatLed Config.switchRaw0 State.reset, rfl, rfl⟩

end Sys2Proof.Machine
end

section
/-! SUPPORT. The beat over any number of CLOCKs, and the time a pulse is measured over (41_pulse_engine.md
R69 to R75, R81, R82). -/

namespace Sys2Proof.Machine

/-- What a CLOCK does to the beat (R71). -/
theorem exec_clock_beat {s t : State} (h : exec .clock s = .next t) :
    t.beatCount.val = (s.beatCount.val + 1) % 24 ∧
    t.beatLedTimer = if s.beatCount.val = 23 then Config.beatLedMs else s.beatLedTimer := by
  rw [exec_next_cases h]
  exact ⟨beatStep_beatCount_val s, by simp [← completesBeat_iff]⟩

/-- Settles O15, by induction on the number of CLOCKs: one CLOCK moves the beat by one round 24 and arms the
LED from position 23 alone. -/
theorem beatGoesRoundIn24Clocks : Obligations.BeatGoesRoundIn24Clocks := by
  unfold Obligations.BeatGoesRoundIn24Clocks
  intro k
  induction k with
  | zero =>
    intro s
    have hlt : s.beatCount.val < 24 := s.beatCount.isLt
    exact ⟨s, rfl, by omega, fun _ => rfl, by omega⟩
  | succ k ih =>
    intro s
    have hlt : s.beatCount.val < 24 := s.beatCount.isLt
    have hclock := exec_clock s
    obtain ⟨hbeat, hled⟩ := exec_clock_beat hclock
    obtain ⟨t, ht, htbeat, htbefore, htat⟩ := ih (useFree (performClock (drawsOf s) s))
    refine ⟨t, by rw [clocks, hclock]; exact ht, by omega, fun hk => ?_, fun hk => ?_⟩
    · rw [htbefore (by omega), hled, if_neg (by omega)]
    · by_cases hlast : s.beatCount.val = 23
      · rw [htbefore (by omega), hled, if_pos hlast]
      · exact htat (by omega)

/-- What a CLOCK leaves armed is half the measured interval, or the default (R70). -/
theorem exec_clock_cmp {s t : State} (h : exec .clock s = .next t) :
    t.timer.cmp.toNat = if s.intervalKnown = true then s.timer.count.toNat / 2 else 5000 := by
  rw [exec_next_cases h]
  exact pulseWidth_toNat Config.minTimerWidth_le_timerWidth _ _

/-- Along lines that meet a condition, what each such line keeps is kept. -/
theorem takeAll_keeps {p : Line → State → Prop} {inv : State → Prop}
    (hstep : ∀ l s t, p l s → take l s = .next t → inv s → inv t) {ls : List Line} {s t : State}
    (hp : Along p ls s) (h : takeAll ls s = .next t) (hs : inv s) : inv t := by
  induction ls generalizing s with
  | nil => cases h; exact hs
  | cons l ls ih =>
    obtain ⟨u, hu, hrest⟩ := takeAll_cons_eq_next_iff.mp h
    obtain ⟨hl, hls⟩ := (along_cons_iff hu).mp hp
    exact ih hls hrest (hstep l s u hl hu hs)

/-- A condition that the lines meet may be weakened. -/
theorem Along.imp {p q : Line → State → Prop} (hpq : ∀ l s, p l s → q l s) {ls : List Line} {s : State}
    (h : Along p ls s) : Along q ls s := by
  induction ls generalizing s with
  | nil => trivial
  | cons l ls ih => exact ⟨hpq l s h.1, fun t ht => ih (h.2 t ht)⟩

/-- What taking a line does is an effect of its event, on the state with its draws. -/
theorem take_effect {l : Line} {s t : State} (h : take l s = .next t) :
    ∃ u, Effect l.event.toInstr (beginStep l s) u ∧ t = endStep l u := by
  obtain ⟨u, hu, ht⟩ := take_eq_next_iff.mp h
  exact ⟨u, exec_effect hu, ht⟩

/-- An event performs a byte operation only as the service of its byte (R66). -/
theorem Performs.service_of_event {op : Instr} {b : Byte} {e : Event} {s : State} {r : Option Byte}
    (h : Performs op b e.toInstr s r) (hop : op ∈ [.clock, .start, .cont, .stop]) :
    e = .isrRx ∧ s.rxPending = some b := by
  have hne : e.toInstr ≠ op := by
    rintro rfl
    cases e <;> simp [Event.toInstr] at hop
  exact (h.source.resolve_left hne).imp_left Event.toInstr_eq_isrRx_iff.mp

/-- A line that services no Clock byte performs no CLOCK. -/
theorem noClock.not_performs {l : Line} {s : State} {r : Option Byte} (h : noClock l s) :
    ¬ Performs .clock 0xF8#8 l.event.toInstr (beginStep l s) r := fun hp => by
  obtain ⟨he, hb⟩ := hp.service_of_event (by simp)
  exact h he hb

/-- Without a CLOCK and a RESET the Pulse Timer changes by microseconds alone (R109). -/
theorem take_timer {l : Line} {s t : State} (h : take l s = .next t) (hc : noClock l s)
    (hr : l.event.isReset = false) : t.timer = if l.event = .usTick then s.timer.tick else s.timer := by
  obtain ⟨u, hu, rfl⟩ := take_eq_next_iff.mp h
  rw [endStep_timer]
  by_cases htick : l.event = .usTick
  · rw [htick] at hu
    rw [if_pos htick, exec_next_cases hu]
    rfl
  · rw [if_neg htick]
    refine (onlyClockAndTickWriteTheTimer _ _ _ hu (Event.toInstr_ne_clock l.event)
      (mt Event.toInstr_eq_usTick_iff.mp htick) (Event.toInstr_ne_reset hr) ?_).trans (beginStep_timer l s)
    exact fun ⟨he, hb⟩ => hc (Event.toInstr_eq_isrRx_iff.mp he) hb

/-- The timer `n` microseconds after it was restarted: it holds their number, and from 2^16 on it has
stopped (R73, R75). -/
def Elapsed (n : Nat) (t : PulseTimer Config.timerWidth) : Prop :=
  (n < 65536 → t.running = true ∧ t.count.toNat = n) ∧ (65536 ≤ n → t.running = false)

/-- One microsecond more has elapsed. -/
theorem Elapsed.tick {n : Nat} {t : PulseTimer Config.timerWidth} (h : Elapsed n t) :
    Elapsed (n + 1) t.tick := by
  obtain ⟨hlt, hge⟩ := h
  obtain ⟨hrun, -, -, htick⟩ | ⟨hrun, hc, -, -, htick⟩ | ⟨hrun, hc, -, -, hsucc, htick⟩ := t.tick_cases
  · have hn : 65536 ≤ n := by
      by_contra hn
      simp [hlt (by omega)] at hrun
    rw [htick]
    exact ⟨fun h => by omega, fun _ => hrun⟩
  · have hn : n < 65536 := by
      by_contra hn
      simp [hge (by omega)] at hrun
    have hcount := (hlt hn).2
    rw [hc, lastCount_timerWidth_toNat] at hcount
    rw [htick]
    exact ⟨fun h => by omega, fun _ => rfl⟩
  · have hn : n < 65536 := by
      by_contra hn
      simp [hge (by omega)] at hrun
    have hcount := (hlt hn).2
    have hne : n ≠ 65535 := by
      rintro rfl
      exact hc (BitVec.eq_of_toNat_eq (hcount.trans lastCount_timerWidth_toNat.symm))
    rw [htick]
    exact ⟨fun _ => ⟨hrun, by rw [hsucc, hcount]⟩, fun h => by omega⟩

/-- The microseconds in a list of lines, line by line. -/
theorem ticksIn_cons (l : Line) (ls : List Line) :
    ticksIn (l :: ls) = (if l.event = .usTick then 1 else 0) + ticksIn ls := by
  simp [ticksIn, List.countP_cons, Nat.add_comm]

/-- A line that neither performs a CLOCK nor resets lets its microseconds elapse. -/
theorem Elapsed.of_take {n : Nat} {l : Line} {s t : State} (hn : Elapsed n s.timer) (h : take l s = .next t)
    (hc : noClock l s) (hr : l.event.isReset = false) :
    Elapsed (n + if l.event = .usTick then 1 else 0) t.timer := by
  rw [take_timer h hc hr]
  split_ifs
  · exact hn.tick
  · exact hn

/-- Over lines that neither perform a CLOCK nor reset their microseconds elapse. -/
theorem Elapsed.of_takeAll {n : Nat} {ls : List Line} {s t : State} (hn : Elapsed n s.timer)
    (hp : Along (fun l u => noClock l u ∧ l.event.isReset = false) ls s) (h : takeAll ls s = .next t) :
    Elapsed (n + ticksIn ls) t.timer := by
  induction ls generalizing s n with
  | nil => cases h; exact hn
  | cons l ls ih =>
    obtain ⟨u, hu, hrest⟩ := takeAll_cons_eq_next_iff.mp h
    obtain ⟨⟨hc, hr⟩, hls⟩ := (along_cons_iff hu).mp hp
    rw [ticksIn_cons, ← Nat.add_assoc]
    exact ih (hn.of_take hu hc hr) hls hrest

/-- Settles O20: at the restart no microsecond has elapsed, and then those of the lines do. -/
theorem counterMeasuresElapsedTime : Obligations.CounterMeasuresElapsedTime := by
  unfold Obligations.CounterMeasuresElapsedTime
  intro ls s t hrun hcount hp h
  have hstart : Elapsed 0 s.timer := ⟨fun _ => ⟨hrun, hcount⟩, by omega⟩
  simpa only [Nat.zero_add, Elapsed] using hstart.of_takeAll hp h

/-- Only CLOCK makes the interval known (R27, R69). -/
theorem take_keeps_intervalValid_false {l : Line} {s t : State} (hc : noClock l s)
    (h : take l s = .next t) (hs : s.intervalValid = false) : t.intervalValid = false := by
  obtain ⟨u, hu, rfl⟩ := take_effect h
  rw [endStep_intervalValid]
  cases hu
  case clock hp => exact absurd hp hc.not_performs
  all_goals simp [hs]

/-- START, CONTINUE and STOP forget the interval (R81, R82). -/
theorem intervalValid_of_transport {i : Instr} {s t : State} (hi : i = .start ∨ i = .cont ∨ i = .stop)
    (h : exec i s = .next t) : t.intervalValid = false := by
  obtain rfl | rfl | rfl := hi <;> rw [exec_next_cases h] <;> rfl

/-- Settles O22: the interval stays forgotten until a CLOCK, whose width is then the default. -/
theorem firstClockAfterTransportIsDefault : Obligations.FirstClockAfterTransportIsDefault := by
  unfold Obligations.FirstClockAfterTransportIsDefault
  intro i ls s₀ s t u hi hs hp h hu
  have ht : t.intervalValid = false :=
    takeAll_keeps (fun _ _ _ => take_keeps_intervalValid_false) hp h (intervalValid_of_transport hi hs)
  rw [exec_clock_cmp hu, State.intervalKnown, ht, Bool.false_and, if_neg Bool.false_ne_true]

/-- A line that stays in the interval performs none of the message operations. -/
theorem staysInInterval.not_performs {l : Line} {s : State} {op : Instr} {b : Byte} {r : Option Byte}
    (h : staysInInterval l s) (hop : op ∈ [.clock, .start, .cont, .stop]) (hb : isMessageByte b = true) :
    ¬ Performs op b l.event.toInstr (beginStep l s) r := fun hp => by
  obtain ⟨-, hbyte, -⟩ := h
  obtain ⟨he, hpend⟩ := hp.service_of_event hop
  simp [(decodeByte_eq_ignore_iff b).mp (hbyte he b hpend)] at hb

/-- A line that stays in the interval services no Clock byte and is no RESET. -/
theorem staysInInterval.noClock {l : Line} {s : State} (h : staysInInterval l s) :
    noClock l s ∧ l.event.isReset = false := by
  obtain ⟨hreset, hbyte, -⟩ := h
  refine ⟨fun he hb => ?_, hreset⟩
  simpa using hbyte he _ hb

/-- A line that stays in the interval and services no overflow leaves the interval known or unknown as it
is. -/
theorem staysInInterval.keeps_intervalValid {l : Line} {s t : State} (hl : staysInInterval l s)
    (h : take l s = .next t) (hne : l.event ≠ .isrOvf) : t.intervalValid = s.intervalValid := by
  obtain ⟨u, hu, rfl⟩ := take_effect h
  obtain ⟨hreset, -, hpass⟩ := id hl
  rw [endStep_intervalValid]
  cases hu
  case clock hp => exact absurd hp (hl.not_performs (by simp) rfl)
  case enterRunning hp =>
    exact hp.elim (absurd · (hl.not_performs (by simp) rfl)) (absurd · (hl.not_performs (by simp) rfl))
  case enterStopped hp => exact absurd hp (hl.not_performs (by simp) rfl)
  case reset l0 hr => exact absurd hr (Event.toInstr_ne_reset hreset l0)
  case isrOvf hi _ => exact absurd (Event.toInstr_eq_isrOvf_iff.mp hi) hne
  case toggle hi _ hd hs => exact absurd ⟨hd, hs⟩ (hpass (Event.toInstr_eq_housekeep_iff.mp hi))
  all_goals simp

/-- Servicing an overflow makes the interval unknown (R77). -/
theorem intervalValid_of_take_isrOvf {l : Line} {s t : State} (h : take l s = .next t)
    (hl : l.event = .isrOvf) : t.intervalValid = false := by
  obtain ⟨u, hu, rfl⟩ := take_eq_next_iff.mp h
  rw [hl] at hu
  obtain ⟨-, rfl⟩ := exec_next_cases hu
  rfl

/-- Over lines that stay in the interval it is forgotten exactly where one services an overflow. -/
theorem takeAll_intervalValid {ls : List Line} {s t : State} (hp : Along staysInInterval ls s)
    (h : takeAll ls s = .next t) :
    t.intervalValid = (s.intervalValid && ls.all fun l => decide (l.event ≠ .isrOvf)) := by
  induction ls generalizing s with
  | nil => cases h; simp
  | cons l ls ih =>
    obtain ⟨u, hu, hrest⟩ := takeAll_cons_eq_next_iff.mp h
    obtain ⟨hl, hls⟩ := (along_cons_iff hu).mp hp
    rw [ih hls hrest]
    by_cases hov : l.event = .isrOvf
    · simp [hov, intervalValid_of_take_isrOvf hu hov]
    · simp [hov, hl.keeps_intervalValid hu hov]

/-- Where fewer than 2^16 microseconds have elapsed no overflow has become pending (R73). -/
theorem Elapsed.ovfPending_false {n : Nat} {l : Line} {s t : State} (hn : Elapsed n t.timer)
    (hlt : n < 65536) (h : take l s = .next t) (hs : s.ovfPending = false) : t.ovfPending = false := by
  obtain ⟨u, hu, rfl⟩ := take_eq_next_iff.mp h
  by_contra hov
  have hi := usTick_of_ovfPending_set (exec_effect hu) hs (by simpa using hov)
  rw [hi] at hu
  rw [exec_next_cases hu] at hn hov
  have hrun : s.timer.tick.running = true := (hn.1 hlt).1
  obtain ⟨-, ho, -⟩ | ⟨-, -, -, -, htick⟩ | ⟨-, -, ho, -⟩ := s.timer.tick_cases
  · exact hov (by simp [hs, ho])
  · simp [htick] at hrun
  · exact hov (by simp [hs, ho])

/-- Before 2^16 microseconds have elapsed no overflow is serviced that was not already pending (R75). -/
theorem Elapsed.no_isrOvf {n : Nat} {ls : List Line} {s t : State} (hn : Elapsed n s.timer)
    (hp : Along (fun l u => noClock l u ∧ l.event.isReset = false) ls s) (h : takeAll ls s = .next t)
    (hlt : n + ticksIn ls < 65536) (hs : s.ovfPending = false) : ∀ l ∈ ls, l.event ≠ .isrOvf := by
  induction ls generalizing s n with
  | nil => exact nofun
  | cons l ls ih =>
    obtain ⟨u, hu, hrest⟩ := takeAll_cons_eq_next_iff.mp h
    obtain ⟨⟨hc, hr⟩, hls⟩ := (along_cons_iff hu).mp hp
    rw [ticksIn_cons, ← Nat.add_assoc] at hlt
    have hnu := hn.of_take hu hc hr
    have hl : l.event ≠ .isrOvf := by
      intro he
      have henabled := (take_iff_enabled l s).mp ⟨u, hu⟩
      simp [he, enabled, hs] at henabled
    have hus := hnu.ovfPending_false (by omega) hu hs
    exact List.forall_mem_cons.mpr ⟨hl, ih hnu hls hrest hlt hus⟩

/-- A CLOCK starts a known interval of no microseconds yet (R69). -/
theorem exec_clock_starts_interval {s t : State} (h : exec .clock s = .next t) :
    t.intervalValid = true ∧ Elapsed 0 t.timer := by
  rw [exec_next_cases h]
  exact ⟨rfl, fun _ => ⟨rfl, by simp⟩, by omega⟩

/-- Settles O21: the next CLOCK measures the microseconds elapsed. The interval is unknown to it where the
timer has stopped or an overflow was serviced, which before 2^16 microseconds is one the first CLOCK kept. -/
theorem nextPulseIsHalfTheInterval : Obligations.NextPulseIsHalfTheInterval := by
  unfold Obligations.NextPulseIsHalfTheInterval
  intro ls s₀ s t u hs hp h hu
  obtain ⟨hvalid, hstart⟩ := exec_clock_starts_interval hs
  have hp' := Along.imp (fun _ _ => staysInInterval.noClock) hp
  have helapsed := hstart.of_takeAll hp' h
  have hknown := takeAll_intervalValid hp h
  rw [hvalid, Bool.true_and] at hknown
  rw [Nat.zero_add] at helapsed
  rw [exec_clock_cmp hu, State.intervalKnown, hknown]
  by_cases hlt : ticksIn ls < 65536
  · obtain ⟨hrun, hcount⟩ := helapsed.1 hlt
    have hserviced : (∃ l ∈ ls, l.event = .isrOvf) → s.ovfPending = true := by
      rintro ⟨l, hl, he⟩
      by_contra ho
      exact hstart.no_isrOvf hp' h (by omega) (by simpa using ho) l hl he
    rw [hrun, hcount, Bool.and_true]
    refine if_congr ?_ rfl rfl
    rw [List.all_eq_true]
    constructor
    · rintro hall
      exact ⟨hlt, fun ⟨_, l, hl, he⟩ => by simpa [he] using hall l hl⟩
    · rintro ⟨-, hno⟩ l hl
      exact decide_eq_true fun he => hno ⟨hserviced ⟨l, hl, he⟩, l, hl, he⟩
  · rw [helapsed.2 (by omega), Bool.and_false, if_neg Bool.false_ne_true, if_neg fun hc => hlt hc.1]

end Sys2Proof.Machine
end

section
/-! SUPPORT. Deadlines and fairness: what a run that meets them does (70_reset_and_hazards.md R124,
60_exceptions.md R115). -/

namespace Sys2Proof.Machine

/-- A state is good by its fault bits alone (R18). -/
theorem good_of_faults_eq {s t : State} (hs : s.good = true) (h : t.faults = s.faults) : t.good = true := by
  simpa only [State.good, h] using hs

@[simp] theorem switchStep_rxPending (s : State) : (switchStep s).rxPending = s.rxPending := by
  obtain ⟨_, _, _, _, _, _, h⟩ := switchStep_frame s
  rw [h]

@[simp] theorem switchStep_tickFlag (s : State) : (switchStep s).tickFlag = s.tickFlag := by
  obtain ⟨_, _, _, _, _, _, h⟩ := switchStep_frame s
  rw [h]

/-- A line that meets the deadlines records no fault, and the rest meets them from the state it leaves
(R124). -/
theorem take_of_deadlinesMet {l : Line} {ls : List Line} {s t : State} (hs : s.good = true)
    (hd : deadlinesMet s.rxPending.isSome s.tickFlag (l :: ls) = true) (h : take l s = .next t) :
    t.good = true ∧ deadlinesMet t.rxPending.isSome t.tickFlag ls = true := by
  obtain ⟨u, hu, rfl⟩ := take_eq_next_iff.mp h
  have hc := exec_event_cases hu
  rw [deadlinesMet] at hd
  cases he : l.event <;> simp only [he] at hc hd
  case reset l0 => exact hc ▸ ⟨rfl, hd⟩
  case rx b =>
    simp only [Bool.and_eq_true, Bool.not_eq_true', Option.isSome_eq_false_iff,
      Option.isNone_iff_eq_none] at hd
    obtain ⟨-, rfl⟩ | ⟨hb, -⟩ := hc
    · exact ⟨hs, hd.2⟩
    · exact absurd hd.1 hb
  case msTick =>
    simp only [Bool.and_eq_true, Bool.not_eq_true'] at hd
    obtain ⟨-, rfl⟩ | ⟨hf, -⟩ := hc
    · exact ⟨hs, hd.2⟩
    · exact absurd (hd.1.symm.trans hf) nofun
  case isrRx =>
    obtain ⟨b, -, hop⟩ := hc
    obtain ⟨hrx, htick, -, -, hf, -⟩ := exec_instrOfByte_frame hop
    refine ⟨good_of_faults_eq hs hf, ?_⟩
    rw [endStep_rxPending, endStep_tickFlag, hrx, htick]
    exact hd
  case housekeep =>
    obtain ⟨-, rfl⟩ := hc
    exact ⟨good_of_faults_eq hs (by simp), by simpa using hd⟩
  case isrCmp => exact hc.2 ▸ ⟨hs, hd⟩
  case isrOvf => exact hc.2 ▸ ⟨hs, hd⟩
  all_goals exact hc ▸ ⟨hs, hd⟩

/-- Settles O47, by induction on the lines. -/
theorem metDeadlinesRecordNoFault : Obligations.MetDeadlinesRecordNoFault := by
  unfold Obligations.MetDeadlinesRecordNoFault
  intro ls
  induction ls with
  | nil => intro s t hs _ h; cases h; exact hs
  | cons l ls ih =>
    intro s t hs hd h
    obtain ⟨u, hu, hrest⟩ := takeAll_cons_eq_next_iff.mp h
    obtain ⟨hgood, hmet⟩ := take_of_deadlinesMet hs hd hu
    exact ih u t hgood hmet hrest

/-- ISR_CMP and RESET leave the clock line low (R76, R116). -/
theorem clockLine_false_of_take {l : Line} {s t : State} (h : take l s = .next t)
    (hl : l.event = .isrCmp ∨ l.event.isReset = true) : t.clockLine = false := by
  obtain ⟨u, hu, rfl⟩ := take_eq_next_iff.mp h
  have hc := exec_event_cases hu
  cases he : l.event <;> simp only [he] at hc hl
  case reset l0 => exact hc ▸ rfl
  case isrCmp => exact hc.2 ▸ rfl
  all_goals exact hl.elim nofun nofun

/-- While the line is high and no Clock byte is serviced a pending compare stays pending (R32). -/
theorem cmpPending_of_take {l : Line} {s t : State} (h : take l s = .next t) (hc : noClock l s)
    (ht : t.clockLine = true) (hs : s.cmpPending = true) : t.cmpPending = true := by
  obtain ⟨u, hu, rfl⟩ := take_effect h
  rw [endStep_clockLine] at ht
  rw [endStep_cmpPending]
  cases hu
  case clock hp => exact absurd hp hc.not_performs
  case isrCmp => simp at ht
  case reset => simp at ht
  all_goals simp [hs]

/-- From position `n` on the run services no Clock byte, and yet the clock line stays high: what fairness
excludes. -/
structure StaysHigh (st : Nat → State) (ln : Nat → Line) (n : Nat) : Prop where
  run : IsRun st ln
  fair : Fair st ln
  inv : ∀ m, StateInv (st m)
  high : ∀ m, n ≤ m → (st m).clockLine = true
  noClock : ∀ m, n ≤ m → noClock (ln m) (st m)

/-- Every state of a run meets the invariants if the first does. -/
theorem stateInv_of_run {st : Nat → State} {ln : Nat → Line} (hrun : IsRun st ln) (h : StateInv (st 0)) :
    ∀ m, StateInv (st m)
  | 0 => h
  | m + 1 => take_keeps stateInv_ignoresSchedule (fun _ _ _ => exec_keeps_stateInv)
      (stateInv_of_run hrun h m) (hrun m)

namespace StaysHigh
variable {st : Nat → State} {ln : Nat → Line} {n m : Nat}

/-- No compare is pending: it would stay so, and its service would drop the line (R76, R115). -/
theorem cmpPending_false (h : StaysHigh st ln n) (hm : n ≤ m) : (st m).cmpPending = false := by
  by_contra hp
  have hstays : ∀ k, m ≤ k → (st k).cmpPending = true := by
    intro k hk
    induction k, hk using Nat.le_induction with
    | base => simpa using hp
    | succ k hk ih =>
      exact cmpPending_of_take (h.run k) (h.noClock k (hm.trans hk)) (h.high (k + 1) (by omega)) ih
  obtain ⟨k, hk, he⟩ := h.fair.serviced .isrCmp (by simp [services]) m hstays
  have hlow := clockLine_false_of_take (h.run k) (.inl he)
  rw [h.high (k + 1) (by omega)] at hlow
  exact absurd hlow nofun

/-- So the pulse's end is still armed, and the timer runs (R43 items 2 and 3). -/
theorem timer_running (h : StaysHigh st ln n) (hm : n ≤ m) : (st m).timer.running = true := by
  have harmed := ((h.inv m).pulse_ends (h.high m hm)).resolve_right (by simp [h.cmpPending_false hm])
  exact (h.inv m).timer.armed_runs harmed

/-- So every microsecond is counted: the timer does not overflow, as it would stop (R73). -/
theorem count_succ (h : StaysHigh st ln n) (hm : n ≤ m) :
    (st (m + 1)).timer.count.toNat =
      (st m).timer.count.toNat + if (ln m).event = .usTick then 1 else 0 := by
  have hreset : (ln m).event.isReset = false := by
    by_contra hr
    have hlow := clockLine_false_of_take (h.run m) (.inr (by simpa using hr))
    rw [h.high (m + 1) (by omega)] at hlow
    exact absurd hlow nofun
  have htimer := take_timer (h.run m) (h.noClock m hm) hreset
  have hnext := h.timer_running (m := m + 1) (by omega)
  rw [htimer] at hnext ⊢
  split_ifs at hnext ⊢
  · obtain ⟨hrun, -⟩ | ⟨-, -, -, -, htick⟩ | ⟨-, -, -, -, hsucc, htick⟩ := (st m).timer.tick_cases
    · simp [h.timer_running hm] at hrun
    · simp [htick] at hnext
    · rw [htick, hsucc]
  · rfl

/-- So the count does not go down. -/
theorem count_mono (h : StaysHigh st ln n) (hm : n ≤ m) {j : Nat} (hj : m ≤ j) :
    (st m).timer.count.toNat ≤ (st j).timer.count.toNat := by
  induction j, hj using Nat.le_induction with
  | base => exact le_rfl
  | succ j hj ih => exact ih.trans (h.count_succ (hm.trans hj) ▸ Nat.le_add_right _ _)

/-- So the count exceeds every bound, as microseconds pass for ever (R115). -/
theorem count_unbounded (h : StaysHigh st ln n) (k : Nat) :
    ∃ m, n ≤ m ∧ k ≤ (st m).timer.count.toNat := by
  induction k with
  | zero => exact ⟨n, le_rfl, Nat.zero_le _⟩
  | succ k ih =>
    obtain ⟨m, hm, hk⟩ := ih
    obtain ⟨j, hj, he⟩ := h.fair.time m
    have hmono := h.count_mono hm hj
    refine ⟨j + 1, by omega, ?_⟩
    rw [h.count_succ (hm.trans hj), if_pos he]
    omega

end StaysHigh

/-- Settles O55: a line that stays high would count every microsecond of a fair run in a counter of 16
bits. -/
theorem everyPulseEndsUnderFairness : Obligations.EveryPulseEndsUnderFairness := by
  unfold Obligations.EveryPulseEndsUnderFairness
  intro st ln n hrun hfair hinv hline hclock
  by_contra hno
  have hhigh : ∀ m, n ≤ m → (st m).clockLine = true := by
    intro m hm
    obtain rfl | hlt := hm.eq_or_lt
    · exact hline
    · by_contra hl
      exact hno ⟨m, hlt, by simpa using hl⟩
  have h : StaysHigh st ln n := ⟨hrun, hfair, stateInv_of_run hrun hinv, hhigh, hclock⟩
  obtain ⟨m, -, hm⟩ := h.count_unbounded 65536
  exact absurd (ticks_toNat_lt (st m).timer.count) hm.not_gt

end Sys2Proof.Machine
end

section
/-! SUPPORT. The timer interrupts against a Clock byte, and the values of a stopped timer
(41_pulse_engine.md R78, 70_reset_and_hazards.md R121, R122). -/

namespace Sys2Proof.Machine

/-- Taking a line is executing its event, between the step's two ends. -/
theorem take_eq_of_exec {l : Line} {s u : State} (h : exec l.event.toInstr (beginStep l s) = .next u) :
    take l s = .next (endStep l u) :=
  take_eq_next_iff.mpr ⟨u, h, rfl⟩

/-- A pending compare is serviced: the line drops (R76). -/
theorem take_isrCmp {s : State} (h : s.cmpPending = true) :
    take (.plain .isrCmp) s =
      .next (endStep (.plain .isrCmp) (dropClockLine (clearCompare (beginStep (.plain .isrCmp) s)))) :=
  take_eq_of_exec ((exec_isrCmp _).trans (if_pos h))

/-- A pending overflow is serviced: the interval is forgotten (R77). -/
theorem take_isrOvf {s : State} (h : s.ovfPending = true) :
    take (.plain .isrOvf) s =
      .next (endStep (.plain .isrOvf) (forgetInterval (beginStep (.plain .isrOvf) s))) :=
  take_eq_of_exec ((exec_isrOvf _).trans (if_pos h))

/-- A pending Clock byte is serviced with the line's draws: a CLOCK (R66, R69). -/
theorem take_clockByte {s : State} (d : Draws) (h : s.rxPending = some 0xF8#8) :
    take ⟨.isrRx, some d⟩ s =
      .next (endStep ⟨.isrRx, some d⟩
        (useFree (performClock d (consumeByte (beginStep ⟨.isrRx, some d⟩ s))))) :=
  take_eq_of_exec (exec_isrRx_of_some (s := beginStep ⟨.isrRx, some d⟩ s) h)

/-- One line is taken by taking it. -/
theorem takeAll_singleton {l : Line} {s t : State} (h : take l s = .next t) : takeAll [l] s = .next t :=
  takeAll_cons_eq_next_iff.mpr ⟨t, h, rfl⟩

/-- Two lines are taken one after the other. -/
theorem takeAll_pair {l l' : Line} {s t u : State} (h : take l s = .next t) (h' : take l' t = .next u) :
    takeAll [l, l'] s = .next u :=
  takeAll_cons_eq_next_iff.mpr ⟨t, h, takeAll_singleton h'⟩

/-- Settles O25: the two services in either order, and the CLOCK that discards the compare. -/
theorem compareRaceHasThreeOutcomes : Obligations.CompareRaceHasThreeOutcomes := by
  unfold Obligations.CompareRaceHasThreeOutcomes
  intro s o hline hcmp hrx
  refine ⟨⟨_, takeAll_pair (take_isrCmp hcmp) (take_clockByte _ hrx), rfl, rfl, ?_, ?_⟩,
    ⟨_, takeAll_pair (take_clockByte _ hrx) (take_isrCmp ?_), rfl, rfl, rfl, ?_⟩,
    ⟨_, takeAll_singleton (take_clockByte _ hrx), rfl, rfl, ?_, ?_⟩⟩
  all_goals simp [hline, hcmp, pulseStartEdges]

/-- Settles O26: the two services in either order, and the CLOCK that discards the overflow. -/
theorem overflowRaceHasThreeOutcomes : Obligations.OverflowRaceHasThreeOutcomes := by
  unfold Obligations.OverflowRaceHasThreeOutcomes
  intro s c g hstop hovf hrx
  refine ⟨⟨_, takeAll_pair (take_isrOvf hovf) (take_clockByte _ hrx), ?_, rfl, ?_⟩,
    ⟨_, takeAll_singleton (take_clockByte _ hrx), ?_, rfl, ?_⟩,
    ⟨_, takeAll_pair (take_clockByte _ hrx) (take_isrOvf ?_), ?_, rfl, rfl⟩⟩
  all_goals simp [State.intervalKnown, hstop, hovf, pulseWidth_toNat Config.minTimerWidth_le_timerWidth]

/-- The state with other values in the timer's counter and compare register. -/
def withTimerValues (c m : Ticks) (s : State) : State :=
  { s with timer := { s.timer with count := c, cmp := m } }

/-- With the timer stopped CLOCK reads neither value: the interval is unknown (R70, R78). -/
theorem performClock_withTimerValues {s : State} (h : s.timer.running = false) (c m : Ticks) (d : Draws) :
    performClock d (withTimerValues c m s) = performClock d s := by
  have hknown : ∀ u : State, u.timer.running = false → u.intervalKnown = false := by
    intro u hu
    rw [State.intervalKnown, hu, Bool.and_false]
  have hwidth : pulseWidth (withTimerValues c m s).intervalKnown c =
      pulseWidth s.intervalKnown s.timer.count := by
    rw [hknown s h, hknown (withTimerValues c m s) h]
    rfl
  apply State.ext
  case timer => exact PulseTimer.ext rfl rfl hwidth rfl
  all_goals rfl

/-- MANUAL_TOGGLE reads no value of the timer (R86). -/
theorem manualToggle_withTimerValues (c m : Ticks) (s : State) :
    manualToggle (withTimerValues c m s) = withTimerValues c m (manualToggle s) := by
  have hrun : (withTimerValues c m s).running = s.running := rfl
  rw [manualToggle, manualToggle, hrun]
  split_ifs <;> rfl

@[simp] theorem switchStep_timer (s : State) : (switchStep s).timer = s.timer := by
  obtain ⟨_, _, _, _, _, _, h⟩ := switchStep_frame s
  rw [h]

/-- The switch machine reads no value of the timer (R91 to R93). -/
theorem switchStep_withTimerValues (c m : Ticks) (s : State) :
    switchStep (withTimerValues c m s) = withTimerValues c m (switchStep s) := by
  have hd : (withTimerValues c m s).debounce = s.debounce := rfl
  have hs : (withTimerValues c m s).switchRaw = s.switchRaw := rfl
  rw [switchStep, switchStep, hd, hs, manualToggle_withTimerValues]
  cases s.debounce <;> cases s.switchRaw <;> rfl

/-- An instruction that reads no value of the timer: from the state with other values it goes to the next
state with these values, or to the very next state, which has overwritten them. -/
def ReadsNoTimerValues (c m : Ticks) (i : Instr) (s t : State) : Prop :=
  (t.timer.running = false ∧ exec i (withTimerValues c m s) = .next (withTimerValues c m t)) ∨
    exec i (withTimerValues c m s) = .next t

/-- Of the byte operations CLOCK overwrites the values and the others leave them alone (R78). -/
theorem readsNoTimerValues_instrOfByte {b : Byte} {s t : State} (c m : Ticks)
    (hs : s.timer.running = false) (h : exec (instrOfByte b) s = .next t) :
    ReadsNoTimerValues c m (instrOfByte b) s t := by
  cases hd : decodeByte b <;> simp only [instrOfByte, hd] at h ⊢ <;> cases exec_next_cases h
  case clock =>
    refine .inr ?_
    rw [exec_clock, performClock_withTimerValues hs]
    rfl
  all_goals exact .inl ⟨hs, rfl⟩

/-- No instruction reads the values of a stopped timer (R78). -/
theorem readsNoTimerValues {i : Instr} {s t : State} (c m : Ticks) (hs : s.timer.running = false)
    (h : exec i s = .next t) : ReadsNoTimerValues c m i s t := by
  have hc := exec_next_cases h
  cases i
  case clock => exact readsNoTimerValues_instrOfByte (b := 0xF8#8) c m hs h
  case reset l0 => exact .inr (hc ▸ rfl)
  case usTick =>
    have hstop : tickTimer (advanceTime (withTimerValues c m s)) = advanceTime (withTimerValues c m s) :=
      tickTimer_of_stopped hs
    rw [tickTimer_of_stopped (s := advanceTime s) hs] at hc
    exact .inl ⟨hc ▸ hs, by rw [exec_usTick, hstop, hc]; rfl⟩
  case isrRx =>
    obtain ⟨b, hb, hop⟩ := hc
    rw [ReadsNoTimerValues, exec_isrRx_of_some (s := withTimerValues c m s) hb]
    exact readsNoTimerValues_instrOfByte (s := consumeByte s) c m hs hop
  case rx b =>
    obtain ⟨hb, rfl⟩ | ⟨hb, rfl⟩ := hc
    · exact .inl ⟨hs, exec_rx_of_none (s := withTimerValues c m s) hb b⟩
    · obtain ⟨b', hb'⟩ := Option.ne_none_iff_exists'.mp hb
      exact .inl ⟨hs, exec_rx_of_some (s := withTimerValues c m s) hb' b⟩
  case msTick =>
    obtain ⟨hf, rfl⟩ | ⟨hf, rfl⟩ := hc
    · exact .inl ⟨hs, exec_msTick_of_clear (s := withTimerValues c m s) hf⟩
    · exact .inl ⟨hs, exec_msTick_of_set (s := withTimerValues c m s) hf⟩
  case isrCmp => exact .inl ⟨hc.2 ▸ hs, by rw [exec_isrCmp]; exact (if_pos hc.1).trans (hc.2 ▸ rfl)⟩
  case isrOvf => exact .inl ⟨hc.2 ▸ hs, by rw [exec_isrOvf]; exact (if_pos hc.1).trans (hc.2 ▸ rfl)⟩
  case housekeep =>
    obtain ⟨hf, rfl⟩ := hc
    refine .inl ⟨by simpa using hs, ?_⟩
    rw [exec_housekeep_of_set (s := withTimerValues c m s) hf]
    exact congrArg (fun u => Host.Outcome.next (ledStep u)) (switchStep_withTimerValues c m (setTickFlag false s))
  all_goals exact .inl ⟨hc ▸ hs, hc ▸ rfl⟩

/-- Settles O24: an instruction keeps the other values, in a timer that stays stopped, or overwrites them. -/
theorem stoppedTimerValuesAreNeverRead : Obligations.StoppedTimerValuesAreNeverRead := by
  unfold Obligations.StoppedTimerValuesAreNeverRead
  intro i s t c m hs h
  obtain ⟨hstop, h'⟩ | h' := readsNoTimerValues c m hs h
  · exact ⟨_, h', rfl, fun hrun => absurd (hstop.symm.trans hrun) nofun⟩
  · exact ⟨_, h', rfl, fun _ => rfl⟩

end Sys2Proof.Machine
end

section
/-! SUPPORT. A pulse under the schedule WAIT: each interrupt is serviced in the microsecond that raises it
(41_pulse_engine.md R79, R128, 30_encoding.md R63). -/

namespace Sys2Proof.Machine

/-- A microsecond passes (R73). -/
theorem take_usTick (s : State) :
    take (.plain .usTick) s =
      .next (endStep (.plain .usTick) (tickTimer (advanceTime (beginStep (.plain .usTick) s)))) :=
  take_eq_of_exec (exec_usTick _)

/-- A compare is serviced if it is pending: then the line drops, and else nothing changes (R63, R76). -/
theorem serviceIfPending_isrCmp (s : State) :
    ∃ t, serviceIfPending .isrCmp s = .next t ∧ t.nowUs = s.nowUs ∧ t.timer = s.timer ∧
      t.cmpPending = false ∧ t.clockLine = (s.clockLine && !s.cmpPending) ∧
      t.trace = s.trace ++ edgesOf s.nowUs .clockLine s.clockLine (s.clockLine && !s.cmpPending) := by
  cases hc : s.cmpPending
  · exact ⟨s, if_neg (by simp [enabled, hc]), rfl, rfl, hc, by simp, by simp⟩
  · exact ⟨_, (if_pos hc).trans (take_isrCmp hc), rfl, rfl, rfl, by simp, by simp⟩

/-- An overflow is serviced if it is pending, which touches neither the lines nor the timer (R63, R77). -/
theorem serviceIfPending_isrOvf (s : State) :
    ∃ t, serviceIfPending .isrOvf s = .next t ∧ t.nowUs = s.nowUs ∧ t.timer = s.timer ∧
      t.cmpPending = s.cmpPending ∧ t.clockLine = s.clockLine ∧ t.trace = s.trace := by
  cases ho : s.ovfPending
  · exact ⟨s, if_neg (by simp [enabled, ho]), rfl, rfl, rfl, rfl, rfl⟩
  · exact ⟨_, (if_pos ho).trans (take_isrOvf ho), rfl, rfl, rfl, rfl, rfl⟩

/-- What one microsecond of WAIT does where no compare is pending: the timer ticks, and a compare that
fires drops the line at that time (R63). -/
theorem waitOne_spec {s : State} (hs : s.cmpPending = false) :
    ∃ t, waitOne s = .next t ∧ t.nowUs = s.nowUs + 1 ∧ t.timer = s.timer.tick ∧ t.cmpPending = false ∧
      t.clockLine = (s.clockLine && !s.timer.fires) ∧
      t.trace = s.trace ++ edgesOf (s.nowUs + 1) .clockLine s.clockLine (s.clockLine && !s.timer.fires) := by
  obtain ⟨u, hu, hunow, hutimer, hucmp, huline, hutrace⟩ :=
    serviceIfPending_isrCmp (endStep (.plain .usTick) (tickTimer (advanceTime (beginStep (.plain .usTick) s))))
  obtain ⟨t, ht, htnow, httimer, htcmp, htline, httrace⟩ := serviceIfPending_isrOvf u
  refine ⟨t, ?_, ?_⟩
  · simp only [waitOne, take_usTick, andThen, hu, ht]
  · simp [htnow, httimer, htcmp, htline, httrace, hunow, hutimer, hucmp, huline, hutrace, hs]

/-- The pulse of `s` after `n` microseconds of WAIT, not yet at its end (R79). -/
structure PulseGoesOn (s : State) (n : Nat) (t : State) : Prop where
  before : n < max s.timer.cmp.toNat 1
  running : t.timer.running = true
  armed : t.timer.armed = true
  cmp : t.timer.cmp = s.timer.cmp
  count : t.timer.count.toNat = n
  clockLine : t.clockLine = true
  trace : t.trace = s.trace

/-- The pulse of `s` after `n` microseconds of WAIT, past its end (R79). -/
structure PulseIsOver (s : State) (n : Nat) (t : State) : Prop where
  past : max s.timer.cmp.toNat 1 ≤ n
  armed : t.timer.armed = false
  clockLine : t.clockLine = false
  trace : t.trace = s.trace ++ [⟨s.nowUs + max s.timer.cmp.toNat 1, .clockLine, false⟩]

/-- The state `n` microseconds of WAIT after `s` (R79, R128). -/
def Waited (s : State) (n : Nat) (t : State) : Prop :=
  t.nowUs = s.nowUs + n ∧ t.cmpPending = false ∧ (PulseGoesOn s n t ∨ PulseIsOver s n t)

/-- A disarmed compare stays disarmed (R31). -/
theorem PulseTimer.tick_armed_of_disarmed {W : Nat} {t : PulseTimer W} (h : t.armed = false) :
    t.tick.armed = false := by
  obtain ⟨-, -, -, htick⟩ | ⟨-, -, -, -, htick⟩ | ⟨-, -, -, -, -, htick⟩ := t.tick_cases <;> simp [htick, h]

/-- One microsecond more of WAIT: it ends the pulse exactly where the count reaches the width (R74, R79). -/
theorem Waited.after_waitOne {s t : State} {n : Nat} (hw : s.timer.cmp.toNat ≤ maxWidth Config.timerWidth)
    (h : Waited s n t) : ∃ u, waitOne t = .next u ∧ Waited s (n + 1) u := by
  obtain ⟨hnow, hcmp, hpulse⟩ := h
  obtain ⟨u, hu, hunow, hutimer, hucmp, huline, hutrace⟩ := waitOne_spec hcmp
  refine ⟨u, hu, by rw [hunow, hnow, Nat.add_assoc], hucmp, ?_⟩
  obtain ⟨hbefore, hrun, harmed, hwidth, hcount, hline, htrace⟩ | ⟨hpast, harmed, hline, htrace⟩ := hpulse
  · have hbound : maxWidth Config.timerWidth < 65535 := maxWidth_lt Config.minTimerWidth_le_timerWidth
    have hne : t.timer.count ≠ lastCount Config.timerWidth := by
      intro hc
      have hlast := congrArg BitVec.toNat hc
      rw [lastCount_timerWidth_toNat] at hlast
      omega
    obtain ⟨hr, -⟩ | ⟨-, hc, -⟩ | ⟨-, -, -, hfires, hsucc, htick⟩ := t.timer.tick_cases
    · simp [hrun] at hr
    · exact absurd hc hne
    · rw [harmed, hwidth, hcount] at hfires
      by_cases hend : max s.timer.cmp.toNat 1 ≤ n + 1
      · have hf : t.timer.fires = true := hfires.mpr ⟨rfl, by omega⟩
        have htime : n + 1 = max s.timer.cmp.toNat 1 := by omega
        refine .inr ⟨hend, by simp [hutimer, htick, hf], by simp [huline, hf], ?_⟩
        rw [hutrace, htrace, hline, hf, hnow, ← htime]
        rfl
      · have hf : t.timer.fires = false := by
          rw [← Bool.not_eq_true, hfires]
          omega
        refine .inl ⟨by omega, ?_, ?_, ?_, ?_, ?_, ?_⟩
        all_goals simp [hutimer, htick, huline, hutrace, hrun, harmed, hf, hwidth, hline, htrace,
          hcount, hsucc]
  · refine .inr ⟨by omega, ?_, by simp [huline, hline], by simp [hutrace, hline, htrace]⟩
    rw [hutimer]
    exact PulseTimer.tick_armed_of_disarmed harmed

/-- Any number of microseconds more of WAIT. -/
theorem Waited.after_wait {s t : State} {k : Nat} (hw : s.timer.cmp.toNat ≤ maxWidth Config.timerWidth)
    (n : Nat) (h : Waited s k t) : ∃ u, wait n t = .next u ∧ Waited s (k + n) u := by
  induction n generalizing k t with
  | zero => exact ⟨t, rfl, h⟩
  | succ n ih =>
    obtain ⟨u, hu, hwu⟩ := h.after_waitOne hw
    obtain ⟨v, hv, hwv⟩ := ih hwu
    exact ⟨v, by rw [wait, hu]; exact hv, by rwa [Nat.add_right_comm] at hwv⟩

/-- After a CLOCK that leaves no compare pending the pulse is at its start (R69). -/
theorem waited_zero {s₀ s : State} (h : exec .clock s₀ = .next s) (hc : s.cmpPending = false) :
    Waited s 0 s := by
  refine ⟨rfl, hc, .inl ⟨by omega, ?_, ?_, rfl, ?_, ?_, rfl⟩⟩ <;> rw [exec_next_cases h]
  case refine_3 => exact BitVec.toNat_zero
  all_goals rfl

/-- Settles O23: from the CLOCK on the pulse goes on until its end and is over from there. -/
theorem pulseLastsItsWidth : Obligations.PulseLastsItsWidth := by
  unfold Obligations.PulseLastsItsWidth
  intro n s₀ s h hc
  have hw : s.timer.cmp.toNat ≤ maxWidth Config.timerWidth := by
    rw [exec_next_cases h]
    exact pulseWidth_le Config.minTimerWidth_le_timerWidth _ _
  obtain ⟨t, ht, hnow, -, hpulse⟩ := (waited_zero h hc).after_wait hw n
  rw [Nat.zero_add] at hnow hpulse
  refine ⟨t, ht, hnow, ?_⟩
  obtain hon | hover := hpulse
  · simp only [hon.before, hon.clockLine, hon.trace, decide_true, if_true, and_self]
  · simp only [hover.past.not_gt, hover.clockLine, hover.trace, decide_false, if_false, and_self]

end Sys2Proof.Machine
end

section
/-! SUPPORT. Passes that sample the switch: the countdowns, the debounce and the toggle over any number of
them (43_housekeeping.md R90 to R96, 70_reset_and_hazards.md R129). -/

namespace Sys2Proof.Machine

/-- One of 255 choices, counted from 1, fits in a byte (R14). -/
theorem toNat_ofNat_choice (c : Fin 255) : (BitVec.ofNat 8 (c.val + 1)).toNat = c.val + 1 := by
  have := c.isLt
  rw [BitVec.toNat_ofNat, Nat.mod_eq_of_lt (by omega)]

/-- A duration given by one of 255 choices is 1..255 (R14). -/
theorem choice_in_range (c : Fin 255) :
    1 ≤ (BitVec.ofNat 8 (c.val + 1)).toNat ∧ (BitVec.ofNat 8 (c.val + 1)).toNat ≤ 255 := by
  have := c.isLt
  rw [toNat_ofNat_choice]
  omega

/-- Settles O41: each duration is one of 255 choices. -/
theorem openDurationsAreInRange : Obligations.OpenDurationsAreInRange := by
  unfold Obligations.OpenDurationsAreInRange
  exact ⟨choice_in_range _, choice_in_range _, choice_in_range _⟩

/-- The debounce takes at least one pass (R13). -/
theorem one_le_debounceMs : 1 ≤ Config.debounceMs.toNat := (choice_in_range Config.debounceChoice).1

/-- Settles O40: the toggle of MANUAL_TOGGLE, then the debounce and both countdowns. -/
theorem housekeepTogglesOnAPress : Obligations.HousekeepTogglesOnAPress := by
  unfold Obligations.HousekeepTogglesOnAPress
  intro s ht hd hs
  refine ⟨_, exec_housekeep_with_toggle ht hd hs, by simp, by simp, by simp, by simp, by simp, by simp,
    manualToggle_beatCount (setTickFlag false s), ?_, ?_⟩
  · cases hr : s.running <;> simp [hr]
  · obtain ⟨_, _, _, _, h⟩ := manualToggle_frame (setTickFlag false s)
    rw [h]
    rfl

/-- What a pass changes of the transport, the countdowns and the trace, where it does not toggle (R90). -/
structure QuietPass (level : Bool) (s t : State) : Prop where
  debounce : t.debounce = quietDebounce s.debounce level
  running : t.running = s.running
  trace : t.trace = s.trace
  midiLedTimer : t.midiLedTimer.toNat = s.midiLedTimer.toNat - 1
  beatLedTimer : t.beatLedTimer.toNat = s.beatLedTimer.toNat - 1

/-- The same where it toggles (R86, R91). -/
structure TogglePass (s t : State) : Prop where
  debounce : t.debounce = .debouncing Config.debounceMs
  running : t.running = !s.running
  trace : t.trace = s.trace ++ [⟨s.nowUs, .runLine, !s.running⟩]
  midiLedTimer : t.midiLedTimer.toNat = s.midiLedTimer.toNat - 1
  beatLedTimer : t.beatLedTimer.toNat =
    (if s.running = true then s.beatLedTimer.toNat else Config.beatLedMs.toNat) - 1

/-- The state in which the HOUSEKEEP of a pass is performed: the level sampled, the tick flagged. -/
def flagged (level : Bool) (s : State) : State :=
  if s.tickFlag then raiseTickOverrun (setSwitch level s) else setTickFlag true (setSwitch level s)

/-- A pass is the HOUSEKEEP on the sampled level and the flagged tick. -/
theorem samplePass_eq (level : Bool) (s : State) :
    samplePass level s = exec .housekeep (flagged level s) := by
  have hf : (setSwitch level s).tickFlag = s.tickFlag := rfl
  rw [samplePass, exec_switch, andThen, exec_msTick, hf, flagged]
  split_ifs <;> rfl

/-- Of what a pass reads and changes, flagging the tick changes the flag and the level alone. -/
theorem flagged_spec (level : Bool) (s : State) : ∃ f, flagged level s =
    { s with tickFlag := true, switchRaw := level, faults := f } := by
  cases hf : s.tickFlag
  · exact ⟨_, (if_neg (by simp [hf])).trans rfl⟩
  · refine ⟨s.faults.withTickOverrun, (if_pos hf).trans ?_⟩
    apply State.ext
    case tickFlag => exact hf
    all_goals rfl

/-- A pass that does not find the switch pressed in Idle. -/
theorem samplePass_of_quiet {level : Bool} {s : State} (h : ¬ (s.debounce = .idle ∧ level = true)) :
    ∃ t, samplePass level s = .next t ∧ QuietPass level s t := by
  obtain ⟨f, hf⟩ := flagged_spec level s
  rw [samplePass_eq, hf]
  exact ⟨_, exec_housekeep_without_toggle rfl h, rfl, rfl, rfl, countDown_toNat _, countDown_toNat _⟩

/-- A pass that finds the switch pressed in Idle. -/
theorem samplePass_of_press {s : State} (h : s.debounce = .idle) :
    ∃ t, samplePass true s = .next t ∧ TogglePass s t := by
  obtain ⟨f, hf⟩ := flagged_spec true s
  rw [samplePass_eq, hf]
  refine ⟨_, exec_housekeep_with_toggle rfl h rfl, by simp, by simp, by simp, by simp, ?_⟩
  cases s.running <;> simp

/-- Passes are taken as the first and then the rest. -/
theorem samplePasses_cons {l : Bool} {ls : List Bool} {s t u : State} (h : samplePass l s = .next t)
    (h' : samplePasses ls t = .next u) : samplePasses (l :: ls) s = .next u := by
  rw [samplePasses, h]
  exact h'

/-- Every pass counts the activity LED down by one (R94). -/
theorem samplePass_midiLedTimer (l : Bool) (s : State) :
    ∃ t, samplePass l s = .next t ∧ t.midiLedTimer.toNat = s.midiLedTimer.toNat - 1 := by
  by_cases h : s.debounce = .idle ∧ l = true
  · obtain ⟨hd, rfl⟩ := h
    obtain ⟨t, ht, hpass⟩ := samplePass_of_press hd
    exact ⟨t, ht, hpass.midiLedTimer⟩
  · obtain ⟨t, ht, hpass⟩ := samplePass_of_quiet h
    exact ⟨t, ht, hpass.midiLedTimer⟩

/-- Any passes count the activity LED down by their number (R94). -/
theorem samplePasses_midiLedTimer (ls : List Bool) (s : State) :
    ∃ t, samplePasses ls s = .next t ∧ t.midiLedTimer.toNat = s.midiLedTimer.toNat - ls.length := by
  induction ls generalizing s with
  | nil => exact ⟨s, rfl, rfl⟩
  | cons l ls ih =>
    obtain ⟨t, ht, htimer⟩ := samplePass_midiLedTimer l s
    obtain ⟨u, hu, hutimer⟩ := ih t
    exact ⟨u, samplePasses_cons ht hu, by rw [hutimer, htimer, List.length_cons]; omega⟩

/-- What passes that do not toggle change (R90 to R94). -/
structure QuietPasses (ls : List Bool) (s t : State) : Prop where
  debounce : t.debounce = ls.foldl quietDebounce s.debounce
  running : t.running = s.running
  trace : t.trace = s.trace
  beatLedTimer : t.beatLedTimer.toNat = s.beatLedTimer.toNat - ls.length

/-- Passes that do not toggle move the debounce state pass by pass, and count the beat LED down by their
number (R94). -/
theorem samplePasses_of_noToggle {ls : List Bool} {s : State} (h : noToggle ls s) :
    ∃ t, samplePasses ls s = .next t ∧ QuietPasses ls s t := by
  induction ls generalizing s with
  | nil => exact ⟨s, rfl, rfl, rfl, rfl, rfl⟩
  | cons l ls ih =>
    obtain ⟨hl, hls⟩ := h
    obtain ⟨t, ht, hpass⟩ := samplePass_of_quiet hl
    obtain ⟨u, hu, hrest⟩ := ih (hls t ht)
    refine ⟨u, samplePasses_cons ht hu, ?_, ?_, ?_, ?_⟩
    · rw [hrest.debounce, hpass.debounce, List.foldl_cons]
    · rw [hrest.running, hpass.running]
    · rw [hrest.trace, hpass.trace]
    · rw [hrest.beatLedTimer, hpass.beatLedTimer, List.length_cons]
      omega

/-- A countdown is above 0 as a byte where it is as a number. -/
theorem decide_zero_lt_byte (b : Byte) : decide (0#8 < b) = decide (0 < b.toNat) := rfl

/-- Settles O42: a countdown of D is above 0 after fewer than D passes. -/
theorem ledIsLitUntilThePassItsTimerNames : Obligations.LedIsLitUntilThePassItsTimerNames := by
  unfold Obligations.LedIsLitUntilThePassItsTimerNames
  refine ⟨fun ls s => ?_, fun ls s h => ?_⟩
  · obtain ⟨t, ht, htimer⟩ := samplePasses_midiLedTimer ls s
    refine ⟨t, ht, ?_⟩
    rw [State.activityLed, decide_zero_lt_byte, htimer, decide_eq_decide]
    omega
  · obtain ⟨t, ht, hpass⟩ := samplePasses_of_noToggle h
    refine ⟨t, ht, ?_⟩
    rw [State.beatLed, decide_zero_lt_byte, hpass.beatLedTimer, hpass.running]
    congr 1
    rw [decide_eq_decide]
    omega

/-- No pass of the listed samples finds the switch pressed in Idle: `noToggle`, by the debounce state
alone. -/
def quietFrom : List Bool → Debounce → Prop
  | [], _ => True
  | l :: ls, d => ¬ (d = .idle ∧ l = true) ∧ quietFrom ls (quietDebounce d l)

/-- Whether passes toggle is decided by the debounce state they start in (R91 to R93). -/
theorem noToggle_of_quietFrom {ls : List Bool} {s : State} (h : quietFrom ls s.debounce) :
    noToggle ls s := by
  induction ls generalizing s with
  | nil => trivial
  | cons l ls ih =>
    obtain ⟨hl, hls⟩ := h
    obtain ⟨t, ht, hpass⟩ := samplePass_of_quiet hl
    refine ⟨hl, fun t' ht' => ih ?_⟩
    cases ht.symm.trans ht'
    rwa [hpass.debounce]

theorem quietFrom_append {ls ls' : List Bool} {d : Debounce} (h : quietFrom ls d)
    (h' : quietFrom ls' (ls.foldl quietDebounce d)) : quietFrom (ls ++ ls') d := by
  induction ls generalizing d with
  | nil => exact h'
  | cons l ls ih => exact ⟨h.1, ih h.2 h'⟩

/-- A debounce that has more than one pass left goes on with one less (R92). -/
theorem quietDebounce_debouncing {r : Byte} (l : Bool) (h : 1 < r.toNat) :
    quietDebounce (.debouncing r) l = .debouncing (r - 1#8) ∧ (r - 1#8).toNat = r.toNat - 1 := by
  refine ⟨(debounceNext_eq r).trans (if_neg (by omega)), ?_⟩
  have := r.isLt
  rw [BitVec.toNat_sub, BitVec.toNat_ofNat]
  omega

/-- A debounce at its last pass ends (R92). -/
theorem quietDebounce_last {r : Byte} (l : Bool) (h : r.toNat ≤ 1) :
    quietDebounce (.debouncing r) l = .waitingForRelease :=
  (debounceNext_eq r).trans (if_pos h)

/-- A debounce of `r` passes does not toggle over them and one pass more, whatever the switch does (R92,
R93). -/
theorem quietFrom_debouncing {ls : List Bool} {r : Byte} (hr : 1 ≤ r.toNat) (h : ls.length ≤ r.toNat + 1) :
    quietFrom ls (.debouncing r) := by
  induction ls generalizing r with
  | nil => trivial
  | cons l ls ih =>
    rw [List.length_cons] at h
    refine ⟨nofun, ?_⟩
    obtain hlast | hmore : r.toNat ≤ 1 ∨ 1 < r.toNat := by omega
    · rw [quietDebounce_last l hlast]
      match ls, h with
      | [], _ => trivial
      | [_], _ => exact ⟨nofun, trivial⟩
      | _ :: _ :: _, h => simp at h; omega
    · obtain ⟨hnext, hless⟩ := quietDebounce_debouncing l hmore
      rw [hnext]
      exact ih (by omega) (by omega)

/-- Over at most its own passes a debounce counts them, and the last of them ends it (R92). -/
theorem foldl_quietDebounce_debouncing {ls : List Bool} {r : Byte} (hr : 1 ≤ r.toNat)
    (h : ls.length ≤ r.toNat) :
    ls.foldl quietDebounce (.debouncing r) =
      if ls.length < r.toNat then .debouncing (r - BitVec.ofNat 8 ls.length) else .waitingForRelease := by
  induction ls generalizing r with
  | nil => simp; omega
  | cons l ls ih =>
    rw [List.length_cons] at h
    rw [List.foldl_cons, List.length_cons]
    obtain hlast | hmore : r.toNat ≤ 1 ∨ 1 < r.toNat := by omega
    · rw [quietDebounce_last l hlast, if_neg (by omega), List.eq_nil_of_length_eq_zero (l := ls) (by omega)]
      rfl
    · obtain ⟨hnext, hless⟩ := quietDebounce_debouncing l hmore
      rw [hnext, ih (by omega) (by omega), hless, sub_sub, ← BitVec.ofNat_add, Nat.add_comm 1]
      exact if_congr (by omega) rfl rfl

/-- Settles O44: the passes of the debounce do not toggle, and they count it down. -/
theorem debounceLastsItsPasses : Obligations.DebounceLastsItsPasses := by
  unfold Obligations.DebounceLastsItsPasses
  intro ls s r hd hr hlen
  have hquiet : quietFrom ls s.debounce := hd ▸ quietFrom_debouncing hr (by omega)
  obtain ⟨t, ht, hpass⟩ := samplePasses_of_noToggle (noToggle_of_quietFrom hquiet)
  exact ⟨t, ht, hpass.running, by rw [hpass.debounce, hd, foldl_quietDebounce_debouncing hr hlen]⟩

/-- A press in Idle toggles once, and then passes that are quiet through its debounce do not toggle (R91). -/
theorem samplePasses_of_press {ls : List Bool} {s : State} (hd : s.debounce = .idle)
    (h : quietFrom ls (.debouncing Config.debounceMs)) :
    ∃ t u, TogglePass s t ∧ samplePasses (true :: ls) s = .next u ∧ QuietPasses ls t u := by
  obtain ⟨t, ht, htoggle⟩ := samplePass_of_press hd
  obtain ⟨u, hu, hquiet⟩ := samplePasses_of_noToggle (noToggle_of_quietFrom (htoggle.debounce.symm ▸ h))
  exact ⟨t, u, htoggle, samplePasses_cons ht hu, hquiet⟩

/-- Settles O45: the passes after the toggle are quiet through its debounce. -/
theorem togglesAreSpacedByTheDebounce : Obligations.TogglesAreSpacedByTheDebounce := by
  unfold Obligations.TogglesAreSpacedByTheDebounce
  intro ls s hd hlen
  obtain ⟨t, u, htoggle, hu, hquiet⟩ := samplePasses_of_press hd (quietFrom_debouncing one_le_debounceMs hlen)
  exact ⟨u, hu, by rw [hquiet.running, htoggle.running]⟩

/-- Where the switch is held the switch machine does not come back to Idle (R92, R93). -/
theorem quietFrom_of_held {ls : List Bool} {d : Debounce} (hd : d ≠ .idle) (h : ∀ l ∈ ls, l = true) :
    quietFrom ls d := by
  induction ls generalizing d with
  | nil => trivial
  | cons l ls ih =>
    obtain ⟨rfl, hls⟩ := List.forall_mem_cons.mp h
    refine ⟨fun hc => hd hc.1, ih ?_ hls⟩
    cases d with
    | idle => exact absurd rfl hd
    | debouncing r =>
      simp only [quietDebounce, debounceNext]
      split_ifs <;> nofun
    | waitingForRelease => nofun

/-- Settles O43: the toggle reloads the countdown, and from its own pass on each pass counts it down. -/
theorem manualStartFlashesTheBeatLed : Obligations.ManualStartFlashesTheBeatLed := by
  unfold Obligations.ManualStartFlashesTheBeatLed
  intro ls s hd hstop hls
  have hquiet : quietFrom ls (.debouncing Config.debounceMs) :=
    hls.elim (quietFrom_debouncing one_le_debounceMs) (quietFrom_of_held nofun)
  obtain ⟨t, u, htoggle, hu, hpass⟩ := samplePasses_of_press hd hquiet
  have hrun : u.running = true := by rw [hpass.running, htoggle.running, hstop]; rfl
  have htimer : u.beatLedTimer.toNat = Config.beatLedMs.toNat - 1 - ls.length := by
    rw [hpass.beatLedTimer, htoggle.beatLedTimer, hstop, if_neg Bool.false_ne_true]
  refine ⟨u, hu, hrun, ?_⟩
  rw [State.beatLed, hrun, Bool.and_true, decide_zero_lt_byte, htimer, decide_eq_decide]
  omega

/-- In WaitingForRelease a held switch changes nothing (R93). -/
theorem foldl_quietDebounce_held (n : Nat) :
    (List.replicate n true).foldl quietDebounce .waitingForRelease = .waitingForRelease := by
  induction n with
  | zero => rfl
  | succ n ih => exact ih

/-- A released switch toggles from no state (R91). -/
theorem quietFrom_released (n : Nat) (d : Debounce) : quietFrom (List.replicate n false) d := by
  induction n generalizing d with
  | zero => trivial
  | succ n ih => exact ⟨fun h => absurd h.2 nofun, ih _⟩

/-- In Idle a released switch changes nothing (R91). -/
theorem foldl_quietDebounce_idle (n : Nat) :
    (List.replicate n false).foldl quietDebounce .idle = .idle := by
  induction n with
  | zero => rfl
  | succ n ih => exact ih

/-- Settles O46: the bounce lasts the debounce, the held switch waits for its release, and the first
released pass goes back to Idle. -/
theorem onePressIsOneToggle : Obligations.OnePressIsOneToggle := by
  unfold Obligations.OnePressIsOneToggle
  intro bounce held released s hd hlen
  have hbounce : bounce.foldl quietDebounce (.debouncing Config.debounceMs) = .waitingForRelease := by
    rw [foldl_quietDebounce_debouncing one_le_debounceMs hlen.le, if_neg hlen.not_lt]
  have hheld : (bounce ++ List.replicate held true).foldl quietDebounce (.debouncing Config.debounceMs) =
      .waitingForRelease := by
    rw [List.foldl_append, hbounce, foldl_quietDebounce_held]
  have hquiet : quietFrom (bounce ++ List.replicate held true ++ List.replicate (released + 1) false)
      (.debouncing Config.debounceMs) := by
    refine quietFrom_append (quietFrom_append (quietFrom_debouncing one_le_debounceMs (by omega)) ?_)
      (quietFrom_released _ _)
    rw [hbounce]
    exact quietFrom_of_held nofun fun _ => List.eq_of_mem_replicate
  obtain ⟨t, u, htoggle, hu, hpass⟩ := samplePasses_of_press hd hquiet
  refine ⟨u, hu, by rw [hpass.running, htoggle.running], by rw [hpass.trace, htoggle.trace], ?_⟩
  rw [hpass.debounce, htoggle.debounce, List.foldl_append, hheld]
  exact foldl_quietDebounce_idle released

end Sys2Proof.Machine
end
